-- ==== Sys2Proof/Word.lean ====
section
/-! DEFINITION. The bit-vector types of the block: bytes of the buffers, 32-bit register words,
20-bit host addresses (00_scope.md R6, R21; 10_state.md preamble). -/

namespace Sys2Proof

/-- One byte of a buffer or of a frame. -/
abbrev Byte := BitVec 8

/-- One 32-bit register or command word (10_state.md, 30_encoding.md R120). -/
abbrev Word := BitVec 32

/-- A host-bus byte address, `ADDR_W = 20` bits wide (00_scope.md R6, 20_memory.md R90). -/
abbrev Addr := BitVec 20

/-- A start marker `(M0, M1)` (00_scope.md R10). -/
abbrev Marker := Byte × Byte

end Sys2Proof
end

