-- ==== Sys2Proof/Config.lean ====
section
/-! DEFINITION. What is fixed for the machine: the parameters of 00_scope.md section 4, the names of
the registers and buffers, the OPEN parameter START_MARKER and the free draw of a power-on byte. -/

namespace Sys2Proof

/-- The registers of the REG region, by name (10_state.md section 2). -/
inductive Reg where
  | ctrl | cmd | status | txLen | txfLen | rxLen | rxStatus | rxHdr | rxTrl
  | csSrc | csOff | csLen | csExpect | csResult
  | toCoef | toTq | toMs | toTicks | idmLo | idmHi | pmmLo | pmmHi
deriving DecidableEq, Repr

/-- The three byte buffers (20_memory.md R91). -/
inductive Buffer where
  | rxbuf | txpay | txfrm
deriving DecidableEq, Repr

/-- The four timeout kinds, field K of the command word (30_encoding.md R121). -/
inductive TimeoutKind where
  | sys | svc | read | sense
deriving DecidableEq, Repr

namespace Config

/-- `RX_MAX` (00_scope.md R7). -/
def rxMax : Nat := 290

/-- `TXP_MAX` (00_scope.md R8). -/
def txpMax : Nat := 65535

/-- `FRAME_OVH` (00_scope.md R19). -/
def frameOvh : Nat := 10

/-- `TXF_MAX = TXP_MAX + 10` (00_scope.md R8). -/
def txfMax : Nat := txpMax + frameOvh

/-- `PREAMBLE` (00_scope.md R9). -/
def preamble : List Byte := [0x00, 0x00, 0xFF]

/-- `POSTAMBLE` (00_scope.md R11). -/
def postamble : Byte := 0x00

/-- `ACK6`, the Acknowledgement frame (00_scope.md R12). -/
def ack6 : List Byte := [0x00, 0x00, 0xFF, 0x00, 0xFF, 0x00]

/-- `ERRSIG`, the error-frame signature (00_scope.md R13). -/
def errSig : List Byte := [0x00, 0x00, 0xFF, 0x00, 0xFF]

/-- `K_SYS`, in units of 100 ns (00_scope.md R14). -/
def kSys : Nat := 3020

/-- `K_SVC`, in units of 100 ns (00_scope.md R14). -/
def kSvc : Nat := 3020

/-- `K_READ`, in units of 100 ns (00_scope.md R14; 90_conflicts.md C5). -/
def kRead : Nat := 3021

/-- `TQ_MIN_SYS`, the floor of request system code (00_scope.md R14). -/
def tqMinSys : Nat := 20000

/-- `TQ_SENSE`, the fixed sense timeout (00_scope.md R14). -/
def tqSense : Nat := 100000

/-- `PIDX_SYS` (00_scope.md R15). -/
def pidxSys : Nat := 3

/-- `PIDX_SVC` (00_scope.md R15). -/
def pidxSvc : Nat := 2

/-- `PIDX_READ` (00_scope.md R15). -/
def pidxRead : Nat := 5

/-- `MS_LO` (00_scope.md R16). -/
def msLo : Nat := 1

/-- `MS_HI` (00_scope.md R16). -/
def msHi : Nat := 65535

/-- `TICKS_MAX` (00_scope.md R17). -/
def ticksMax : Nat := 0xFFFF

/-- `SENSE_LEN` (00_scope.md R18). -/
def senseLen : Nat := 37

/-- The default of the OPEN parameter START_MARKER (00_scope.md R10; 93_implementation_defined.md G1). -/
def defaultMarker : Marker := (0xFF, 0xFF)

/-- The first marker byte this hardware was built with, before the constraint of R10: nothing fixes it.
DESIGN CHOICE (log 4), safe. -/
opaque rawM0 : Byte

/-- The second marker byte this hardware was built with, before the constraint of R10: nothing fixes it.
DESIGN CHOICE (log 4), safe. -/
opaque rawM1 : Byte

/-- A marker under the constraint `(M0, M1) ≠ (00, FF)` of 00_scope.md R10: the one pair the rule forbids
stands for the default, every other pair for itself. -/
def constrainMarker (m : Marker) : Marker :=
  if m = (0x00, 0xFF) then defaultMarker else m

/-- `START_MARKER = (M0, M1)`, OPEN: any pair the constraint of 00_scope.md R10 allows, and nothing in Lean
says which (log 4). -/
def startMarker : Marker := constrainMarker (rawM0, rawM1)

/-- The value a buffer byte holds from a power-on until something writes it: a free draw per power-on and per
bus address (70_reset_and_hazards.md R292, 20_memory.md R104). Nothing fixes it.
DESIGN CHOICE (log 3), safe. -/
opaque powerOnByte : Nat → Nat → Byte

end Config

end Sys2Proof
end

