-- ==== Sys2Proof/Machine/AddressMap.lean ====
section
/-! DEFINITION. The address map of the host bus (20_memory.md R91, 10_state.md section 2): which register or
buffer byte an address names, at each of the two access widths. -/

namespace Sys2Proof.Machine

/-- First bus address of a buffer (20_memory.md R91). -/
def bufBase : Buffer → Nat
  | .rxbuf => 0x01000
  | .txpay => 0x20000
  | .txfrm => 0x40000

/-- Size of a buffer in bytes (20_memory.md R91). -/
def bufSize : Buffer → Nat
  | .rxbuf => Config.rxMax
  | .txpay => Config.txpMax
  | .txfrm => Config.txfMax

/-- Bus address of byte `i` of a buffer (20_memory.md R91). -/
def bufAddr (b : Buffer) (i : Nat) : Nat := bufBase b + i

/-- Whether a bus address lies in a buffer's region (20_memory.md R91). -/
def inRegion (b : Buffer) (a : Nat) : Bool :=
  decide (bufBase b ≤ a) && decide (a < bufBase b + bufSize b)

/-- The buffer byte a bus address names, if it lies in a buffer region (20_memory.md R91). -/
def bufferAt (a : Nat) : Option (Buffer × Nat) :=
  if inRegion .rxbuf a then some (.rxbuf, a - bufBase .rxbuf)
  else if inRegion .txpay a then some (.txpay, a - bufBase .txpay)
  else if inRegion .txfrm a then some (.txfrm, a - bufBase .txfrm)
  else none

/-- Offset of a register in the REG region, which is also its address (10_state.md section 2). -/
def regOffset : Reg → Nat
  | .ctrl => 0x00
  | .cmd => 0x04
  | .status => 0x08
  | .txLen => 0x0C
  | .txfLen => 0x10
  | .rxLen => 0x14
  | .rxStatus => 0x18
  | .rxHdr => 0x1C
  | .rxTrl => 0x20
  | .csSrc => 0x24
  | .csOff => 0x28
  | .csLen => 0x2C
  | .csExpect => 0x30
  | .csResult => 0x34
  | .toCoef => 0x38
  | .toTq => 0x3C
  | .toMs => 0x40
  | .toTicks => 0x44
  | .idmLo => 0x48
  | .idmHi => 0x4C
  | .pmmLo => 0x50
  | .pmmHi => 0x54

/-- Every register, in the order of the register map. -/
def allRegs : List Reg :=
  [.ctrl, .cmd, .status, .txLen, .txfLen, .rxLen, .rxStatus, .rxHdr, .rxTrl, .csSrc, .csOff, .csLen,
   .csExpect, .csResult, .toCoef, .toTq, .toMs, .toTicks, .idmLo, .idmHi, .pmmLo, .pmmHi]

/-- Last address of the REG region plus one (20_memory.md R91). -/
def regEnd : Nat := 0x100

/-- What a 4-byte access at an address reaches: a register, a reserved offset of REG (10_state.md R53), or
nothing, so that the access is refused (20_memory.md R92 to R94). -/
inductive WordTarget where
  | register (r : Reg)
  | reserved
  | refused
deriving DecidableEq, Repr

/-- The target of a 4-byte access (20_memory.md R92 to R94, R109). -/
def wordTarget (a : Addr) : WordTarget :=
  if a.toNat < regEnd ∧ a.toNat % 4 = 0 then
    match allRegs.find? (fun r => regOffset r == a.toNat) with
    | some r => .register r
    | none => .reserved
  else .refused

/-- The target of a 1-byte access: a buffer byte, or nothing, so that the access is refused
(20_memory.md R92 to R94, R109). -/
def byteTarget (a : Addr) : Option (Buffer × Nat) := bufferAt a.toNat

/-- Whether the host may write a buffer: all but TXFRM (20_memory.md R91, R94). -/
def hostWritable : Buffer → Bool
  | .rxbuf => true
  | .txpay => true
  | .txfrm => false

end Sys2Proof.Machine
end

