-- ==== Sys2Proof/Machine/Bytes.lean ====
section
/-! DEFINITION. Byte sequences: sums, checksums, little-endian fields and register packing
(00_scope.md R20 to R22, 41_checksum.md R160 to R162, 20_memory.md R99, R100). -/

namespace Sys2Proof.Machine

/-- `Σ s`, the sum of the bytes of a sequence as integers (00_scope.md R22). -/
def byteSum (s : List Byte) : Nat := (s.map BitVec.toNat).sum

/-- `sum8(s) = (Σ s) mod 256` (41_checksum.md R160). -/
def sum8 (s : List Byte) : Byte := BitVec.ofNat 8 (byteSum s % 256)

/-- `cs(s) = (256 − (Σ s)) mod 256`, with the floor remainder (41_checksum.md R161, 00_scope.md R20). -/
def cs (s : List Byte) : Byte := BitVec.ofNat 8 ((256 - (byteSum s : Int)) % 256).toNat

/-- "A byte sequence `s` and a checksum byte `c` validate when `(sum8(s) + c) mod 256 = 0`"
(41_checksum.md R162). -/
def validates (s : List Byte) (c : Byte) : Bool := ((sum8 s).toNat + c.toNat) % 256 == 0

/-- `le16(v)`: the 2-byte sequence `v[7:0], v[15:8]` (00_scope.md R22). -/
def le16 (v : Nat) : List Byte := [BitVec.ofNat 8 v, BitVec.ofNat 8 (v / 256)]

/-- `s[i, j)`: bytes `i` to `j − 1`, empty when `j ≤ i` (00_scope.md R22). -/
def slice (s : List Byte) (i j : Nat) : List Byte := (s.drop i).take (j - i)

/-- Four bytes in a register, the first in the lowest bits: `b0 | b1<<8 | b2<<16 | b3<<24`
(10_state.md R51, 20_memory.md R100). -/
def packWord (b0 b1 b2 b3 : Byte) : Word :=
  b0.setWidth 32 ||| b1.setWidth 32 <<< 8 ||| b2.setWidth 32 <<< 16 ||| b3.setWidth 32 <<< 24

/-- Byte `i` of a register word, byte 0 in the lowest bits (10_state.md R51). -/
def wordByte (w : Word) (i : Nat) : Byte := w.extractLsb' (8 * i) 8

end Sys2Proof.Machine
end

