-- ==== Sys2Proof/Syntax.lean ====
section
/-! DEFINITION. The command set FB1: one constructor per row of the opcode map (30_encoding.md R123). -/

namespace Sys2Proof

/-- A decoded command. The only operand a command word carries is the count N (30_encoding.md R122). The
TIMEOUT.SYS and TIMEOUT.SENSE rows keep the N they were written with, although the command ignores it
(R127), so that each word of the row is its own instruction (log 8). -/
inductive Instr where
  | nop
  | encode
  | encack
  | classify
  | csum
  | cschk
  | capture
  | timeoutSys (n : BitVec 8)
  | timeoutSvc (n : BitVec 8)
  | timeoutRead (n : BitVec 8)
  | timeoutSense (n : BitVec 8)
deriving DecidableEq, Repr

end Sys2Proof
end

