-- ==== Sys2Proof/Decode.lean ====
section
/-! DEFINITION. The decoder of the command word, total and rejecting by name (30_encoding.md R120 to R129), the
opcode map as rows (R123), and the encoder. -/

namespace Sys2Proof

/-- The command error codes but OK (60_exceptions.md R261), in the priority order of R262. -/
inductive CmdError where
  /-- ERR_ILLOP, 1: opcode 0x08..0xFF (30_encoding.md R124). -/
  | illop
  /-- ERR_RSVD, 2: reserved bits of the word are not 0 (30_encoding.md R125). -/
  | rsvd
  /-- ERR_KIND, 3: TIMEOUT with K in 4..15 (30_encoding.md R126). -/
  | kind
  /-- ERR_NOID, 4: TIMEOUT.SYS, .SVC or .READ without an identity (43_tag_timeout.md R227 to R229). -/
  | noid
  /-- ERR_RANGE, 5: checksum range outside its buffer (41_checksum.md R163). -/
  | range
deriving DecidableEq, Repr

/-- What the decoder answers: `decode(w)` of 30_encoding.md R129. -/
inductive Decoded where
  | ok (i : Instr)
  | err (e : CmdError)
deriving DecidableEq, Repr

/-- OP, bits 7:0 (30_encoding.md R121). -/
def opField (w : Word) : BitVec 8 := w.extractLsb' 0 8

/-- N, bits 15:8 (30_encoding.md R121). -/
def nField (w : Word) : BitVec 8 := w.extractLsb' 8 8

/-- K, bits 19:16 (30_encoding.md R121). -/
def kField (w : Word) : BitVec 4 := w.extractLsb' 16 4

/-- RSV, bits 31:20 (30_encoding.md R121). -/
def rsvField (w : Word) : BitVec 12 := w.extractLsb' 20 12

/-- Bits 31:8, reserved for every opcode but TIMEOUT (30_encoding.md R121). -/
def highField (w : Word) : BitVec 24 := w.extractLsb' 8 24

/-- The TIMEOUT rows, by K (30_encoding.md R129). -/
def decodeTimeout (w : Word) : Decoded :=
  match (kField w).toNat with
  | 0 => .ok (.timeoutSys (nField w))
  | 1 => .ok (.timeoutSvc (nField w))
  | 2 => .ok (.timeoutRead (nField w))
  | 3 => .ok (.timeoutSense (nField w))
  | _ => .err .kind

/-- The decoder, total on every word, with the checks in the order of 30_encoding.md R129. -/
def decode (w : Word) : Decoded :=
  if 0x08 ≤ (opField w).toNat then .err .illop
  else if (opField w).toNat ≤ 0x06 ∧ highField w ≠ 0 then .err .rsvd
  else if (opField w).toNat = 0x07 ∧ rsvField w ≠ 0 then .err .rsvd
  else
    match (opField w).toNat with
    | 0x00 => .ok .nop
    | 0x01 => .ok .encode
    | 0x02 => .ok .encack
    | 0x03 => .ok .classify
    | 0x04 => .ok .csum
    | 0x05 => .ok .cschk
    | 0x06 => .ok .capture
    | _ => decodeTimeout w

/-- A command word from its fields, RSV zero (30_encoding.md R121). -/
def commandWord (op n : BitVec 8) (k : BitVec 4) : Word :=
  op.setWidth 32 ||| n.setWidth 32 <<< 8 ||| k.setWidth 32 <<< 16

/-- The command word of an instruction (30_encoding.md R123, R131). -/
def encode : Instr → Word
  | .nop => commandWord 0x00 0 0
  | .encode => commandWord 0x01 0 0
  | .encack => commandWord 0x02 0 0
  | .classify => commandWord 0x03 0 0
  | .csum => commandWord 0x04 0 0
  | .cschk => commandWord 0x05 0 0
  | .capture => commandWord 0x06 0 0
  | .timeoutSys n => commandWord 0x07 n 0
  | .timeoutSvc n => commandWord 0x07 n 1
  | .timeoutRead n => commandWord 0x07 n 2
  | .timeoutSense n => commandWord 0x07 n 3

/-- A row of the opcode map (30_encoding.md R123). -/
structure OpRow where
  mnemonic : String
  pattern : Word
  mask : Word
deriving DecidableEq, Repr

/-- "a word `w` selects a row when `w & mask = match`" (30_encoding.md R123). -/
def OpRow.selects (r : OpRow) (w : Word) : Bool := w &&& r.mask == r.pattern

/-- The opcode map (30_encoding.md R123), in its order. -/
def opcodeTable : List OpRow :=
  [ ⟨"NOP", 0x00000000, 0xFFFFFFFF⟩,
    ⟨"ENCODE", 0x00000001, 0xFFFFFFFF⟩,
    ⟨"ENCACK", 0x00000002, 0xFFFFFFFF⟩,
    ⟨"CLASSIFY", 0x00000003, 0xFFFFFFFF⟩,
    ⟨"CSUM", 0x00000004, 0xFFFFFFFF⟩,
    ⟨"CSCHK", 0x00000005, 0xFFFFFFFF⟩,
    ⟨"CAPTURE", 0x00000006, 0xFFFFFFFF⟩,
    ⟨"TIMEOUT.SYS", 0x00000007, 0xFFFF00FF⟩,
    ⟨"TIMEOUT.SVC", 0x00010007, 0xFFFF00FF⟩,
    ⟨"TIMEOUT.READ", 0x00020007, 0xFFFF00FF⟩,
    ⟨"TIMEOUT.SENSE", 0x00030007, 0xFFFF00FF⟩ ]

/-- The mnemonic of an instruction's row (30_encoding.md R123). -/
def Instr.mnemonic : Instr → String
  | .nop => "NOP"
  | .encode => "ENCODE"
  | .encack => "ENCACK"
  | .classify => "CLASSIFY"
  | .csum => "CSUM"
  | .cschk => "CSCHK"
  | .capture => "CAPTURE"
  | .timeoutSys _ => "TIMEOUT.SYS"
  | .timeoutSvc _ => "TIMEOUT.SVC"
  | .timeoutRead _ => "TIMEOUT.READ"
  | .timeoutSense _ => "TIMEOUT.SENSE"

/-- The instruction the decoder reads from the low `nbits` bits of `w`, every bit above them 0. A command word
is the number the host writes to CMD, so bit 0 is its least significant bit (log 13). -/
def decodeTableWord (nbits w : Nat) : Option Instr :=
  match decode (BitVec.ofNat 32 (w % 2 ^ nbits)) with
  | .ok i => some i
  | .err _ => none

end Sys2Proof
end

