-- ==== Sys2Proof/Machine/State.lean ====
section
/-! DEFINITION. The state of the block: the register fields of 10_state.md R33 to R52, the buffer bytes of
20_memory.md R91, and the model's own record of the host's side (log 1, 3, 6). -/

namespace Sys2Proof.Machine

/-- STATUS.CADENCE (10_state.md R35, 42_frame_codec.md R187). Code 3 never occurs (log 12). -/
inductive Cadence where
  | idle | awaitAck | awaitResp
deriving DecidableEq, Repr

/-- RX_STATUS.KIND (10_state.md R39). -/
inductive FrameKind where
  | none | ack | success | failure
deriving DecidableEq, Repr

/-- STATUS (10_state.md R35). `err = none` is code 0, no error. -/
structure Status where
  err : Option CmdError
  cadence : Cadence
  seqErr : Bool
  idValid : Bool
  capHit : Bool
  lastOp : BitVec 8
deriving DecidableEq, Repr

/-- RX_STATUS (10_state.md R39). -/
structure RxStatus where
  kind : FrameKind
  sigMatch : Bool
  ackMatch : Bool
  hdrOk : Bool
  lcsOk : Bool
  dcsOk : Bool
  postOk : Bool
  isShort : Bool
  isLong : Bool
  len37 : Bool
deriving DecidableEq, Repr

/-- RX_HDR (10_state.md R40). -/
structure RxHdr where
  len : BitVec 16
  lcs : Byte
deriving DecidableEq, Repr

/-- RX_TRL (10_state.md R41). -/
structure RxTrl where
  dcs : Byte
  post : Byte
  payLen : BitVec 9
deriving DecidableEq, Repr

/-- CS_RESULT (10_state.md R46). -/
structure CsResult where
  cs : Byte
  sum : Byte
  valid : Bool
deriving DecidableEq, Repr

/-- TO_COEF (10_state.md R47). -/
structure ToCoef where
  a : BitVec 3
  b : BitVec 3
  e : BitVec 2
  pbyte : Byte
  pidx : BitVec 4
  n : BitVec 8
  kind : TimeoutKind
deriving DecidableEq, Repr

/-- TO_MS (10_state.md R49). -/
structure ToMs where
  ms : BitVec 16
  lowClamp : Bool
deriving DecidableEq, Repr

/-- TO_TICKS (10_state.md R50). -/
structure ToTicks where
  ticks : BitVec 16
  sat : Bool
deriving DecidableEq, Repr

/-- The registers of the REG region that hold state (10_state.md section 2). CTRL is not among them: its one
bit starts an action and reads 0 (R33). -/
structure Regs where
  cmd : Word
  status : Status
  txLen : BitVec 16
  txfLen : BitVec 17
  rxLen : BitVec 9
  rxStatus : RxStatus
  rxHdr : RxHdr
  rxTrl : RxTrl
  csSrc : BitVec 2
  csOff : BitVec 17
  csLen : BitVec 17
  csExpect : Byte
  csResult : CsResult
  toCoef : ToCoef
  toTq : BitVec 29
  toMs : ToMs
  toTicks : ToTicks
  idmLo : Word
  idmHi : Word
  pmmLo : Word
  pmmHi : Word
deriving DecidableEq, Repr

/-- The written buffer bytes, as (bus address, byte) pairs with addresses strictly rising (log 16). An address
not listed has not been written since power-on. -/
abbrev Memory := List Host.Cell

/-- One host-bus access (20_memory.md R109). The bus has two widths, 4 bytes and 1 byte (R92, R93; log 10). -/
inductive HostAccess where
  | read32 (a : Addr)
  | write32 (a : Addr) (v : Word)
  | read8 (a : Addr)
  | write8 (a : Addr) (v : Byte)
deriving DecidableEq, Repr

/-- What can happen to the block from outside: a host access, or a pulse of the reset input
(70_reset_and_hazards.md R290, R303; log 1, log 7). -/
inductive HostEvent where
  | access (a : HostAccess)
  | powerOnReset
deriving DecidableEq, Repr

/-- What the host sees of an access (20_memory.md R95, 70_reset_and_hazards.md R303; log 6). -/
inductive BusResponse where
  /-- The value of an accepted 4-byte read. -/
  | word (v : Word)
  /-- The value of an accepted 1-byte read. -/
  | byte (v : Byte)
  /-- An accepted write. -/
  | accepted
  /-- BusError on a read, with the data value that came with it (0, R95). -/
  | refusedRead (data : Word)
  /-- BusError on a write. -/
  | refusedWrite
deriving DecidableEq, Repr

/-- The state of the machine (10_state.md R55), and three fields of the model's own: `powerOns` counts
power-on resets and only selects the free draws of unwritten bytes (log 3); `pending` is what the host will do
next, next first (log 1); `observed` is what it has seen since power-on, oldest first (log 6). -/
structure State where
  regs : Regs
  mem : Memory
  powerOns : Nat
  pending : List HostEvent
  observed : List BusResponse
deriving DecidableEq, Repr

/-- Why a step could stop with a fault: nothing. Both kinds of fault of 60_exceptions.md R260 leave the block
running: a CmdError is a code in STATUS.ERR, a BusError a response to the host (log 5). Safe. -/
inductive Fault where
deriving DecidableEq, Repr

/-- Why a step could be refused. -/
inductive Refusal where
  /-- Raised by `exec` for an instruction that has no meaning yet. Every instruction of this command set has
  one, so nothing raises it. Safe: it only stops. -/
  | notModelled (mnemonic : String)
deriving DecidableEq, Repr

/-- Every register field at its reset value: 0 (10_state.md R56). -/
def Regs.reset : Regs where
  cmd := 0
  status :=
    { err := none, cadence := .idle, seqErr := false, idValid := false, capHit := false, lastOp := 0 }
  txLen := 0
  txfLen := 0
  rxLen := 0
  rxStatus :=
    { kind := .none, sigMatch := false, ackMatch := false, hdrOk := false, lcsOk := false, dcsOk := false,
      postOk := false, isShort := false, isLong := false, len37 := false }
  rxHdr := { len := 0, lcs := 0 }
  rxTrl := { dcs := 0, post := 0, payLen := 0 }
  csSrc := 0
  csOff := 0
  csLen := 0
  csExpect := 0
  csResult := { cs := 0, sum := 0, valid := false }
  toCoef := { a := 0, b := 0, e := 0, pbyte := 0, pidx := 0, n := 0, kind := .sys }
  toTq := 0
  toMs := { ms := 0, lowClamp := false }
  toTicks := { ticks := 0, sat := false }
  idmLo := 0
  idmHi := 0
  pmmLo := 0
  pmmHi := 0

/-- The block right after power-on reset: registers 0, no buffer byte written, waiting for the host
(70_reset_and_hazards.md R290, R292). `powerOns = 0` is a DESIGN CHOICE (log 3). -/
def State.reset : State where
  regs := Regs.reset
  mem := []
  powerOns := 0
  pending := []
  observed := []

end Sys2Proof.Machine
end

