-- ==== Sys2Proof/Machine/Ops.lean ====
section
/-! DEFINITION. The named operations over memory and registers: buffer reads and writes, the command envelope,
command errors, resets, and the writes of each result group. -/

namespace Sys2Proof.Machine

/-! ## The list of written bytes -/

/-- What an address that is not listed reads as: no value, it has not been written since power-on
(70_reset_and_hazards.md R292; log 16). -/
def unwritten : Option Byte := none

/-- The byte written at a bus address, if any has been since power-on. -/
def memLookup (m : Memory) (a : Nat) : Option Byte :=
  match m with
  | [] => unwritten
  | c :: rest => if c.1 = a then some c.2 else memLookup rest a

/-- Writes one byte, keeping the addresses strictly rising. -/
def memWrite (m : Memory) (a : Nat) (v : Byte) : Memory :=
  match m with
  | [] => [(a, v)]
  | c :: rest =>
    if a < c.1 then (a, v) :: c :: rest
    else if a = c.1 then (a, v) :: rest
    else c :: memWrite rest a v

/-- Writes a sequence of bytes at consecutive addresses, first byte first. -/
def memWriteAll (m : Memory) (a : Nat) (vs : List Byte) : Memory :=
  match vs with
  | [] => m
  | v :: rest => memWriteAll (memWrite m a v) (a + 1) rest

/-- The canonical form: addresses strictly rising. No listed entry can equal what an unlisted address reads
as, since that is no byte at all (log 16). -/
def memWf (m : Memory) : Bool :=
  match m with
  | [] => true
  | c :: rest => rest.all (fun d => decide (c.1 < d.1)) && memWf rest

/-! ## Buffers -/

/-- The byte at a bus address: the last one written, or the free draw of this power-on
(20_memory.md R104, R105; log 3). -/
def byteAt (s : State) (a : Nat) : Byte :=
  match memLookup s.mem a with
  | some v => v
  | none => Config.powerOnByte s.powerOns a

/-- `RXBUF[i]`, `TXPAY[i]`, `TXFRM[i]` (00_scope.md R23, 20_memory.md R91). -/
def bufByte (s : State) (b : Buffer) (i : Nat) : Byte := byteAt s (bufAddr b i)

/-- `buf[off, off + len)` (00_scope.md R22). -/
def bufRange (s : State) (b : Buffer) (off len : Nat) : List Byte :=
  (List.range len).map (fun i => bufByte s b (off + i))

/-- `buf[i] <- v` (00_scope.md R23). -/
def setBufByte (b : Buffer) (i : Nat) (v : Byte) (s : State) : State :=
  { s with mem := memWrite s.mem (bufAddr b i) v }

/-- `TXFRM[0, |frame|) <- frame; TXF_LEN.LEN <- |frame|`: how ENCODE and ENCACK leave their frame. Bytes of
TXFRM past it keep their contents (42_frame_codec.md R183, R184, 20_memory.md R102). -/
def writeFrame (frame : List Byte) (s : State) : State :=
  { s with
    mem := memWriteAll s.mem (bufAddr .txfrm 0) frame
    regs := { s.regs with txfLen := BitVec.ofNat 17 frame.length } }

/-! ## The command envelope and command errors (40_control.md R150, 60_exceptions.md R260 to R264) -/

/-- What the envelope writes before it decodes: `CMD.WORD <- w; STATUS.LASTOP <- w[7:0]` (40_control.md R150). -/
def enterCommand (w : Word) (s : State) : State :=
  { s with regs := { s.regs with cmd := w, status := { s.regs.status with lastOp := opField w } } }

/-- `STATUS.ERR <- code`. -/
def setErr (e : Option CmdError) (s : State) : State :=
  { s with regs := { s.regs with status := { s.regs.status with err := e } } }

/-- TAKING A COMMAND ERROR, `raise CmdError(code)`: STATUS.ERR <- code and nothing else; no control moves and
the block goes on (00_scope.md R24, 40_control.md R150, 60_exceptions.md R260, R263). -/
def raiseCmdError (e : CmdError) (s : State) : Host.Outcome State Fault Refusal :=
  .next (setErr (some e) s)

/-- The end of a command that raised no error: STATUS.ERR <- 0 (40_control.md R150). There is no return from an
error; this is what clears one (60_exceptions.md R264). -/
def completeCommand (s : State) : Host.Outcome State Fault Refusal :=
  .next (setErr none s)

/-! ## Writes of the result groups -/

/-- `STATUS.CADENCE <- c` (42_frame_codec.md R187). -/
def setCadence (c : Cadence) (s : State) : State :=
  { s with regs := { s.regs with status := { s.regs.status with cadence := c } } }

/-- `if STATUS.CADENCE != IDLE: STATUS.SEQERR <- 1` (42_frame_codec.md R183). -/
def markSequence (s : State) : State :=
  { s with
    regs := { s.regs with
      status := { s.regs.status with seqErr := s.regs.status.seqErr || s.regs.status.cadence != .idle } } }

/-- Writes CS_RESULT (41_checksum.md R164, R165). -/
def setCsResult (r : CsResult) (s : State) : State :=
  { s with regs := { s.regs with csResult := r } }

/-- Writes the receive results RX_STATUS, RX_HDR and RX_TRL (42_frame_codec.md R189). -/
def setRxResult (st : RxStatus) (hdr : RxHdr) (trl : RxTrl) (s : State) : State :=
  { s with regs := { s.regs with rxStatus := st, rxHdr := hdr, rxTrl := trl } }

/-- Writes the timeout results TO_COEF, TO_TQ, TO_MS and TO_TICKS (43_tag_timeout.md section 3). -/
def setTimeout (coef : ToCoef) (tq : BitVec 29) (ms : ToMs) (ticks : ToTicks) (s : State) : State :=
  { s with regs := { s.regs with toCoef := coef, toTq := tq, toMs := ms, toTicks := ticks } }

/-- Replaces IDm and PMm wholesale and sets STATUS.ID_VALID (43_tag_timeout.md R222). -/
def setIdentity (idmLo idmHi pmmLo pmmHi : Word) (s : State) : State :=
  { s with
    regs := { s.regs with
      idmLo := idmLo, idmHi := idmHi, pmmLo := pmmLo, pmmHi := pmmHi
      status := { s.regs.status with idValid := true } } }

/-- `STATUS.CAPHIT <- h` (43_tag_timeout.md R222). -/
def setCapHit (h : Bool) (s : State) : State :=
  { s with regs := { s.regs with status := { s.regs.status with capHit := h } } }

/-! ## Resets and the host's record -/

/-- Soft reset: every register field to its reset value, no buffer byte changed (70_reset_and_hazards.md R291). -/
def softReset (s : State) : State := { s with regs := Regs.reset }

/-- Power-on reset: registers at their reset values, every buffer byte a fresh free draw, a new run
(70_reset_and_hazards.md R290, R292, R303; log 7). -/
def powerOn (s : State) : State :=
  { State.reset with powerOns := s.powerOns + 1, pending := s.pending }

/-- Records what the host saw of an access (70_reset_and_hazards.md R303; log 6). -/
def observe (r : BusResponse) (s : State) : State := { s with observed := s.observed ++ [r] }

/-- Takes the next host event off the list (log 1). -/
def dropEvent (rest : List HostEvent) (s : State) : State := { s with pending := rest }

end Sys2Proof.Machine
end

