-- ==== Sys2Proof/Machine/Flags.lean ====
section
/-! DEFINITION. The codes of the enumerated fields and every flag computation of the block
(10_state.md R54; 42_frame_codec.md R186, R188; 41_checksum.md R162; 43_tag_timeout.md R225, R226). The
functions on a received frame take the bytes RXBUF[0, RX_LEN). -/

namespace Sys2Proof.Machine

/-! ## Codes -/

/-- STATUS.ERR (60_exceptions.md R261). -/
def errCode : Option CmdError → BitVec 4
  | none => 0
  | some .illop => 1
  | some .rsvd => 2
  | some .kind => 3
  | some .noid => 4
  | some .range => 5

/-- STATUS.CADENCE (10_state.md R35). -/
def cadenceCode : Cadence → BitVec 2
  | .idle => 0
  | .awaitAck => 1
  | .awaitResp => 2

/-- RX_STATUS.KIND (10_state.md R39). -/
def frameKindCode : FrameKind → BitVec 2
  | .none => 0
  | .ack => 1
  | .success => 2
  | .failure => 3

/-- TO_COEF.KIND, the field K of the command word (10_state.md R47). -/
def timeoutKindCode : TimeoutKind → BitVec 2
  | .sys => 0
  | .svc => 1
  | .read => 2
  | .sense => 3

/-! ## Flags of a received frame `raw` (42_frame_codec.md R185 to R188) -/

/-- `ext(i)`: byte `i` of the received frame, 0 beyond it (42_frame_codec.md R185). -/
def extByte (raw : List Byte) (i : Nat) : Byte := raw.getD i 0

/-- `len = ext(5) + 256·ext(6)` (42_frame_codec.md R188). -/
def declaredLen (raw : List Byte) : Nat := (extByte raw 5).toNat + 256 * (extByte raw 6).toNat

/-- `sig = (L ≥ 5 and RXBUF[0, 5) = ERRSIG)` (42_frame_codec.md R186). -/
def sigMatch (raw : List Byte) : Bool :=
  decide (5 ≤ raw.length) && slice raw 0 5 == Config.errSig

/-- `L = 6 and RXBUF[0, 6) = ACK6` (42_frame_codec.md R188). -/
def ackMatch (raw : List Byte) : Bool :=
  decide (raw.length = 6) && slice raw 0 6 == Config.ack6

/-- `L >= 5 and RXBUF[0, 5) = 00 00 FF M0 M1` (42_frame_codec.md R188). -/
def hdrOk (m : Marker) (raw : List Byte) : Bool :=
  decide (5 ≤ raw.length) && slice raw 0 5 == Config.preamble ++ [m.1, m.2]

/-- The length checksum validates (42_frame_codec.md R188). -/
def lcsOk (raw : List Byte) : Bool :=
  decide (8 ≤ raw.length) &&
    ((extByte raw 5).toNat + (extByte raw 6).toNat + (extByte raw 7).toNat) % 256 == 0

/-- The payload checksum validates (42_frame_codec.md R188). -/
def dcsOk (raw : List Byte) : Bool :=
  decide (9 + declaredLen raw ≤ raw.length) &&
    validates (slice raw 8 (8 + declaredLen raw)) (extByte raw (8 + declaredLen raw))

/-- The postamble is present and 0x00 (42_frame_codec.md R188). -/
def postOk (raw : List Byte) : Bool :=
  decide (10 + declaredLen raw ≤ raw.length) && extByte raw (9 + declaredLen raw) == Config.postamble

/-- `L < len + 10` (42_frame_codec.md R188). -/
def isShort (raw : List Byte) : Bool := decide (raw.length < declaredLen raw + 10)

/-- `L > len + 10` (42_frame_codec.md R188). -/
def isLong (raw : List Byte) : Bool := decide (declaredLen raw + 10 < raw.length)

/-- `L = 37` (42_frame_codec.md R188). -/
def isLen37 (raw : List Byte) : Bool := decide (raw.length = 37)

/-! ## Flags of the timeout calculator -/

/-- LOWCLAMP: the unclamped milliseconds were 0 (43_tag_timeout.md R225). -/
def lowClamp (msRaw : Nat) : Bool := decide (msRaw = 0)

/-- SAT: the ticks do not fit 16 bits (43_tag_timeout.md R226). -/
def tickSat (ticksRaw : Nat) : Bool := decide (Config.ticksMax < ticksRaw)

end Sys2Proof.Machine
end

