-- ==== Sys2Proof/Machine/Operands.lean ====
section
/-! DEFINITION. Operand forms: what each command reads (30_encoding.md R122), and what a host read or write of
each register gives and stores (10_state.md sections 3 to 8). -/

namespace Sys2Proof.Machine

/-! ## Operands of the commands (30_encoding.md R122) -/

/-- `TXPAY[0, TX_LEN.N)`, the payload ENCODE frames (10_state.md R36). -/
def payloadOperand (s : State) : List Byte := bufRange s .txpay 0 s.regs.txLen.toNat

/-- `RXBUF[0, RX_LEN.LEN)`, the received frame (10_state.md R38). -/
def receivedFrame (s : State) : List Byte := bufRange s .rxbuf 0 s.regs.rxLen.toNat

/-- The buffer CS_SRC.SRC selects; 3 is reserved (10_state.md R42). -/
def checksumSource (src : BitVec 2) : Option Buffer :=
  match src.toNat with
  | 0 => some .txpay
  | 1 => some .rxbuf
  | 2 => some .txfrm
  | _ => none

/-- The checksum range, if it is legal: `SRC ≠ 3` and `CS_OFF.OFF + CS_LEN.LEN ≤ size` (41_checksum.md R163). -/
def checksumRange (s : State) : Option (List Byte) :=
  match checksumSource s.regs.csSrc with
  | some b =>
    if s.regs.csOff.toNat + s.regs.csLen.toNat ≤ bufSize b then
      some (bufRange s b s.regs.csOff.toNat s.regs.csLen.toNat)
    else none
  | none => none

/-- `PMm[i]` for `i` in 0..7: `PMm[0]` in PMM_LO bits 7:0, `PMm[7]` in PMM_HI bits 31:24 (10_state.md R52). -/
def pmmByte (s : State) (i : Nat) : Byte :=
  if i < 4 then wordByte s.regs.pmmLo i else wordByte s.regs.pmmHi (i - 4)

/-- `a = p[2:0]`, the base-time coefficient (43_tag_timeout.md R221). -/
def coefA (p : Byte) : BitVec 3 := p.extractLsb' 0 3

/-- `b = p[5:3]`, the per-unit coefficient (43_tag_timeout.md R221). -/
def coefB (p : Byte) : BitVec 3 := p.extractLsb' 3 3

/-- `e = p[7:6]`, the exponent (43_tag_timeout.md R221). -/
def coefE (p : Byte) : BitVec 2 := p.extractLsb' 6 2

/-! ## Host reads of a register -/

/-- A field placed at its lowest bit; the bits no field takes read 0 (10_state.md preamble). -/
def placeField {k : Nat} (v : BitVec k) (lo : Nat) : Word := v.setWidth 32 <<< lo

/-- A flag placed at its bit. -/
def placeFlag (f : Bool) (lo : Nat) : Word := placeField (BitVec.ofBool f) lo

/-- STATUS as a word (10_state.md R35). -/
def statusWord (r : Status) : Word :=
  placeField (errCode r.err) 0 ||| placeField (cadenceCode r.cadence) 4 ||| placeFlag r.seqErr 8
    ||| placeFlag r.idValid 16 ||| placeFlag r.capHit 17 ||| placeField r.lastOp 24

/-- RX_STATUS as a word (10_state.md R39). -/
def rxStatusWord (r : RxStatus) : Word :=
  placeField (frameKindCode r.kind) 0 ||| placeFlag r.sigMatch 2 ||| placeFlag r.ackMatch 3
    ||| placeFlag r.hdrOk 4 ||| placeFlag r.lcsOk 5 ||| placeFlag r.dcsOk 6 ||| placeFlag r.postOk 7
    ||| placeFlag r.isShort 8 ||| placeFlag r.isLong 9 ||| placeFlag r.len37 10

/-- TO_COEF as a word (10_state.md R47). -/
def toCoefWord (r : ToCoef) : Word :=
  placeField r.a 0 ||| placeField r.b 3 ||| placeField r.e 6 ||| placeField r.pbyte 8
    ||| placeField r.pidx 16 ||| placeField r.n 20 ||| placeField (timeoutKindCode r.kind) 28

/-- `reg_at(a)`: what a host read of a register gives (20_memory.md R109, 10_state.md R33 to R52). -/
def readReg (s : State) (r : Reg) : Word :=
  match r with
  | .ctrl => 0
  | .cmd => s.regs.cmd
  | .status => statusWord s.regs.status
  | .txLen => placeField s.regs.txLen 0
  | .txfLen => placeField s.regs.txfLen 0
  | .rxLen => placeField s.regs.rxLen 0
  | .rxStatus => rxStatusWord s.regs.rxStatus
  | .rxHdr => placeField s.regs.rxHdr.len 0 ||| placeField s.regs.rxHdr.lcs 16
  | .rxTrl =>
    placeField s.regs.rxTrl.dcs 0 ||| placeField s.regs.rxTrl.post 8 ||| placeField s.regs.rxTrl.payLen 16
  | .csSrc => placeField s.regs.csSrc 0
  | .csOff => placeField s.regs.csOff 0
  | .csLen => placeField s.regs.csLen 0
  | .csExpect => placeField s.regs.csExpect 0
  | .csResult =>
    placeField s.regs.csResult.cs 0 ||| placeField s.regs.csResult.sum 8 ||| placeFlag s.regs.csResult.valid 16
  | .toCoef => toCoefWord s.regs.toCoef
  | .toTq => placeField s.regs.toTq 0
  | .toMs => placeField s.regs.toMs.ms 0 ||| placeFlag s.regs.toMs.lowClamp 16
  | .toTicks => placeField s.regs.toTicks.ticks 0 ||| placeFlag s.regs.toTicks.sat 16
  | .idmLo => s.regs.idmLo
  | .idmHi => s.regs.idmHi
  | .pmmLo => s.regs.pmmLo
  | .pmmHi => s.regs.pmmHi

/-! ## Host writes of a register -/

/-- RX_LEN is WARL: a write of `v` stores `min(v, 290)`, `v` the whole 32-bit value (10_state.md R38). -/
def legalRxLen (v : Word) : BitVec 9 := BitVec.ofNat 9 (min v.toNat Config.rxMax)

/-- What a host write of a register stores, for the registers whose write has no other effect; a write to a
read-only register is ignored (20_memory.md R98, R109, 10_state.md R36, R38, R42 to R45). -/
def storeReg (r : Reg) (v : Word) (s : State) : State :=
  match r with
  | .txLen => { s with regs := { s.regs with txLen := v.extractLsb' 0 16 } }
  | .rxLen => { s with regs := { s.regs with rxLen := legalRxLen v } }
  | .csSrc => { s with regs := { s.regs with csSrc := v.extractLsb' 0 2 } }
  | .csOff => { s with regs := { s.regs with csOff := v.extractLsb' 0 17 } }
  | .csLen => { s with regs := { s.regs with csLen := v.extractLsb' 0 17 } }
  | .csExpect => { s with regs := { s.regs with csExpect := v.extractLsb' 0 8 } }
  | _ => s

end Sys2Proof.Machine
end

