-- ==== Sys2Proof/Machine/Checksum.lean ====
section
/-! DEFINITION. The checksum unit's commands (41_checksum.md R163 to R165). -/

namespace Sys2Proof.Machine

/-- What both checksum commands do: ERR_RANGE for an illegal range (41_checksum.md R163), else CS_RESULT from
the range, with `ok` deciding the flag OK. -/
def checksumCommand (ok : List Byte → Bool) (s : State) : Host.Outcome State Fault Refusal :=
  match checksumRange s with
  | none => raiseCmdError .range s
  | some bytes => completeCommand (setCsResult { cs := cs bytes, sum := sum8 bytes, valid := ok bytes } s)

/-- CSUM (41_checksum.md R164): OK <- 0. -/
def execCsum (s : State) : Host.Outcome State Fault Refusal := checksumCommand (fun _ => false) s

/-- CSCHK (41_checksum.md R165): OK says whether the range validates against CS_EXPECT. -/
def execCschk (s : State) : Host.Outcome State Fault Refusal :=
  checksumCommand (fun bytes => validates bytes s.regs.csExpect) s

end Sys2Proof.Machine
end

