-- ==== Sys2Proof/Machine/Control.lean ====
section
/-! DEFINITION. The control command (40_control.md). Each meaning is what the envelope executes after it has
written CMD and LASTOP and decoded the word (40_control.md R150; log 9). -/

namespace Sys2Proof.Machine

/-- NOP (40_control.md R151): `skip`; the envelope then clears STATUS.ERR. -/
def execNop (s : State) : Host.Outcome State Fault Refusal := completeCommand s

end Sys2Proof.Machine
end

