-- ==== Sys2Proof/Machine/FrameCodec.lean ====
section
/-! DEFINITION. The frame codec: ENCODE, ENCACK and CLASSIFY (42_frame_codec.md). -/

namespace Sys2Proof.Machine

/-- The Command/Response Frame of a payload, in transmission order (42_frame_codec.md R180). -/
def commandFrame (m : Marker) (payload : List Byte) : List Byte :=
  Config.preamble ++ [m.1, m.2] ++ le16 payload.length ++ [cs (le16 payload.length)] ++ payload
    ++ [cs payload, Config.postamble]

/-- ENCODE (42_frame_codec.md R183): the frame of TXPAY[0, TX_LEN) into TXFRM; SEQERR when the cadence was not
IDLE; the cadence to AWAIT_ACK. -/
def execEncode (s : State) : Host.Outcome State Fault Refusal :=
  completeCommand
    (setCadence .awaitAck
      (writeFrame (commandFrame Config.startMarker (payloadOperand s)) (markSequence s)))

/-- ENCACK (42_frame_codec.md R184): the bare Acknowledgement into TXFRM; the cadence stays. -/
def execEncack (s : State) : Host.Outcome State Fault Refusal := completeCommand (writeFrame Config.ack6 s)

/-- The content verdict (42_frame_codec.md R186). -/
def verdict (raw : List Byte) : FrameKind := if sigMatch raw then .failure else .success

/-- The kind CLASSIFY reports in each cadence slot (42_frame_codec.md R187, R189). -/
def classifiedKind (c : Cadence) (raw : List Byte) : FrameKind :=
  match c with
  | .awaitAck => .ack
  | .awaitResp => verdict raw
  | .idle => verdict raw

/-- The slot CLASSIFY leaves (42_frame_codec.md R187, R189). -/
def cadenceAfterClassify : Cadence → Cadence
  | .awaitAck => .awaitResp
  | .awaitResp => .idle
  | .idle => .idle

/-- RX_STATUS of a received frame (42_frame_codec.md R188). -/
def parseStatus (m : Marker) (kind : FrameKind) (raw : List Byte) : RxStatus where
  kind := kind
  sigMatch := sigMatch raw
  ackMatch := ackMatch raw
  hdrOk := hdrOk m raw
  lcsOk := lcsOk raw
  dcsOk := dcsOk raw
  postOk := postOk raw
  isShort := isShort raw
  isLong := isLong raw
  len37 := isLen37 raw

/-- RX_HDR of a received frame (42_frame_codec.md R188). -/
def parseHdr (raw : List Byte) : RxHdr where
  len := BitVec.ofNat 16 (declaredLen raw)
  lcs := extByte raw 7

/-- RX_TRL of a received frame (42_frame_codec.md R188). -/
def parseTrl (raw : List Byte) : RxTrl where
  dcs := extByte raw (8 + declaredLen raw)
  post := extByte raw (9 + declaredLen raw)
  payLen := BitVec.ofNat 9 (min (declaredLen raw) (raw.length - 8))

/-- CLASSIFY (42_frame_codec.md R189): every RX_* result from RXBUF[0, RX_LEN), the kind and the next slot from
the cadence. -/
def execClassify (s : State) : Host.Outcome State Fault Refusal :=
  let raw := receivedFrame s
  let slot := s.regs.status.cadence
  completeCommand
    (setCadence (cadenceAfterClassify slot)
      (setRxResult (parseStatus Config.startMarker (classifiedKind slot raw) raw) (parseHdr raw) (parseTrl raw) s))

end Sys2Proof.Machine
end

