-- ==== Sys2Proof/Machine/TagTimeout.lean ====
section
/-! DEFINITION. Card identity capture and the tag-command timeout calculator (43_tag_timeout.md). -/

namespace Sys2Proof.Machine

/-! ## CAPTURE -/

/-- Raw offset of IDm in a sense response: payload offset 9, the payload starting at 8 (00_scope.md R18). -/
def idmOffset : Nat := 8 + 9

/-- Raw offset of PMm in a sense response: payload offset 17 (00_scope.md R18). -/
def pmmOffset : Nat := 8 + 17

/-- Four bytes of RXBUF from `i` on, packed as a register (10_state.md R51). -/
def packRxbuf (s : State) (i : Nat) : Word :=
  packWord (bufByte s .rxbuf i) (bufByte s .rxbuf (i + 1)) (bufByte s .rxbuf (i + 2)) (bufByte s .rxbuf (i + 3))

/-- CAPTURE (43_tag_timeout.md R222): IDm and PMm from RXBUF when RX_LEN is exactly 37, else only CAPHIT. -/
def execCapture (s : State) : Host.Outcome State Fault Refusal :=
  if s.regs.rxLen.toNat = Config.senseLen then
    completeCommand
      (setCapHit true
        (setIdentity (packRxbuf s idmOffset) (packRxbuf s (idmOffset + 4)) (packRxbuf s pmmOffset)
          (packRxbuf s (pmmOffset + 4)) s))
  else completeCommand (setCapHit false s)

/-! ## Timeout values (43_tag_timeout.md R224 to R226) -/

/-- `3020 * (a + 1)` or `K * ((b + 1) * n + a + 1)`, times `4^e`: `units` of the base time `k`
(43_tag_timeout.md R224). -/
def scaledTime (k units e : Nat) : Nat := k * units * 4 ^ e

/-- `(b + 1) * n + a + 1` (43_tag_timeout.md R224). -/
def countUnits (p n : Byte) : Nat := ((coefB p).toNat + 1) * n.toNat + (coefA p).toNat + 1

/-- `tq_of(kind, p, n)` in units of 100 ns, exact (43_tag_timeout.md R224). -/
def timeoutTq (k : TimeoutKind) (p n : Byte) : Nat :=
  match k with
  | .sys => max (scaledTime Config.kSys ((coefA p).toNat + 1) (coefE p).toNat) Config.tqMinSys
  | .svc => scaledTime Config.kSvc (countUnits p n) (coefE p).toNat
  | .read => scaledTime Config.kRead (countUnits p n) (coefE p).toNat
  | .sense => Config.tqSense

/-- `ms_raw = floor_div(tq, 10000)` (43_tag_timeout.md R225). -/
def timeoutMsRaw (tq : Nat) : Nat := tq / 10000

/-- `ms_of(tq)`: clamped to 1..65535 (43_tag_timeout.md R225). -/
def timeoutMs (tq : Nat) : Nat := min (max (timeoutMsRaw tq) Config.msLo) Config.msHi

/-- `ticks_raw = (ms + 1) * 10` (43_tag_timeout.md R226). -/
def timeoutTicksRaw (ms : Nat) : Nat := (ms + 1) * 10

/-- `ticks_of(ms)`: saturated at 0xFFFF (43_tag_timeout.md R226). -/
def timeoutTicks (ms : Nat) : Nat := min (timeoutTicksRaw ms) Config.ticksMax

/-- `write TO_*` (43_tag_timeout.md section 3): TO_COEF with the byte `p`, its index and the recorded count, and
TO_TQ, TO_MS, TO_TICKS from `tq`. -/
def writeTimeout (k : TimeoutKind) (p : Byte) (idx : BitVec 4) (nRec : Byte) (tq : Nat) (s : State) : State :=
  setTimeout
    { a := coefA p, b := coefB p, e := coefE p, pbyte := p, pidx := idx, n := nRec, kind := k }
    (BitVec.ofNat 29 tq)
    { ms := BitVec.ofNat 16 (timeoutMs tq), lowClamp := lowClamp (timeoutMsRaw tq) }
    { ticks := BitVec.ofNat 16 (timeoutTicks (timeoutMs tq)), sat := tickSat (timeoutTicksRaw (timeoutMs tq)) }
    s

/-- What the three identity timeouts share: ERR_NOID without an identity, else the results from PMm byte `idx`
(43_tag_timeout.md R227 to R229). -/
def identityTimeout (k : TimeoutKind) (idx : Nat) (n : Byte) (s : State) : Host.Outcome State Fault Refusal :=
  if s.regs.status.idValid then
    completeCommand
      (writeTimeout k (pmmByte s idx) (BitVec.ofNat 4 idx) n (timeoutTq k (pmmByte s idx) n) s)
  else raiseCmdError .noid s

/-- TIMEOUT.SYS (43_tag_timeout.md R227): PMm[3]; N is ignored and recorded as 0. -/
def execTimeoutSys (s : State) : Host.Outcome State Fault Refusal := identityTimeout .sys Config.pidxSys 0 s

/-- TIMEOUT.SVC n (43_tag_timeout.md R228): PMm[2]. -/
def execTimeoutSvc (n : BitVec 8) (s : State) : Host.Outcome State Fault Refusal :=
  identityTimeout .svc Config.pidxSvc n s

/-- TIMEOUT.READ n (43_tag_timeout.md R229): PMm[5]. -/
def execTimeoutRead (n : BitVec 8) (s : State) : Host.Outcome State Fault Refusal :=
  identityTimeout .read Config.pidxRead n s

/-- TIMEOUT.SENSE (43_tag_timeout.md R230): the fixed 10 ms; no identity, no PMm byte, index 0xF. -/
def execTimeoutSense (s : State) : Host.Outcome State Fault Refusal :=
  completeCommand (writeTimeout .sense 0 0xF 0 (timeoutTq .sense 0 0) s)

end Sys2Proof.Machine
end

