-- ==== Sys2Proof/Machine/Dispatch.lean ====
section
/-! DEFINITION. `execute d` of 40_control.md R150: one arm per row of the opcode map (30_encoding.md R123). -/

namespace Sys2Proof.Machine

-- The meaning of a decoded command. TIMEOUT.SYS and TIMEOUT.SENSE ignore their N (30_encoding.md R127).
def exec (i : Instr) (s : State) : Host.Outcome State Fault Refusal :=
  match i with
  | .nop => Sys2Proof.Machine.execNop s
  | .encode => Sys2Proof.Machine.execEncode s
  | .encack => Sys2Proof.Machine.execEncack s
  | .classify => Sys2Proof.Machine.execClassify s
  | .csum => Sys2Proof.Machine.execCsum s
  | .cschk => Sys2Proof.Machine.execCschk s
  | .capture => Sys2Proof.Machine.execCapture s
  | .timeoutSys _ => Sys2Proof.Machine.execTimeoutSys s
  | .timeoutSvc n => Sys2Proof.Machine.execTimeoutSvc n s
  | .timeoutRead n => Sys2Proof.Machine.execTimeoutRead n s
  | .timeoutSense _ => Sys2Proof.Machine.execTimeoutSense s

end Sys2Proof.Machine
end

