-- ==== Sys2Proof/Machine/Bus.lean ====
section
/-! DEFINITION. The command envelope around `exec`, and the host-bus operations (40_control.md R150,
20_memory.md R92 to R98, R109). -/

namespace Sys2Proof.Machine

/-- `run_command(w)` (40_control.md R150): CMD and LASTOP, then the decoder's error or the command itself. -/
def runCommand (w : Word) (s : State) : Host.Outcome State Fault Refusal :=
  match decode w with
  | .err e => raiseCmdError e (enterCommand w s)
  | .ok i => exec i (enterCommand w s)

/-- Applies an update to the next state, if there is one. -/
def mapNext (f : State → State) (o : Host.Outcome State Fault Refusal) : Host.Outcome State Fault Refusal :=
  match o with
  | .next t => .next (f t)
  | .fault r => .fault r
  | .refused r => .refused r

/-- What the host sees of `MemRead(a, 4)` (20_memory.md R109): a register, 0 at a reserved offset
(10_state.md R53), else BusError with data 0 (20_memory.md R95). -/
def read32Response (s : State) (a : Addr) : BusResponse :=
  match wordTarget a with
  | .register r => .word (readReg s r)
  | .reserved => .word 0
  | .refused => .refusedRead 0

/-- What the host sees of `MemRead(a, 1)` (20_memory.md R109). -/
def read8Response (s : State) (a : Addr) : BusResponse :=
  match byteTarget a with
  | some (b, i) => .byte (bufByte s b i)
  | none => .refusedRead 0

/-- `MemWrite(a, 4, v)` to a register (20_memory.md R109): CMD runs a command, CTRL with bit 0 set resets, the
other registers store per their table. -/
def writeReg (r : Reg) (v : Word) (s : State) : Host.Outcome State Fault Refusal :=
  match r with
  | .cmd => runCommand v s
  | .ctrl => .next (if v.getLsbD 0 then softReset s else s)
  | _ => .next (storeReg r v s)

/-- `MemWrite(a, 4, v)` (20_memory.md R109). -/
def write32 (a : Addr) (v : Word) (s : State) : Host.Outcome State Fault Refusal :=
  match wordTarget a with
  | .register r => mapNext (observe .accepted) (writeReg r v s)
  | .reserved => .next (observe .accepted s)
  | .refused => .next (observe .refusedWrite s)

/-- `MemWrite(a, 1, v)` (20_memory.md R109): RXBUF and TXPAY store, all else is refused. -/
def write8 (a : Addr) (v : Byte) (s : State) : State :=
  match byteTarget a with
  | some (b, i) =>
    if hostWritable b then observe .accepted (setBufByte b i v s) else observe .refusedWrite s
  | none => observe .refusedWrite s

/-- One host-bus access (20_memory.md R109), with its response recorded. -/
def hostAccess (a : HostAccess) (s : State) : Host.Outcome State Fault Refusal :=
  match a with
  | .read32 a => .next (observe (read32Response s a) s)
  | .read8 a => .next (observe (read8Response s a) s)
  | .write32 a v => write32 a v s
  | .write8 a v => .next (write8 a v s)

/-- One host event: an access, or a pulse of the reset input (70_reset_and_hazards.md R290; log 7). -/
def hostEvent (e : HostEvent) (s : State) : Host.Outcome State Fault Refusal :=
  match e with
  | .access a => hostAccess a s
  | .powerOnReset => .next (powerOn s)

/-- The bus address of CMD (10_state.md R34). -/
def cmdAddr : Addr := BitVec.ofNat 20 (regOffset .cmd)

/-- The host event that launches the command word in the low `nbits` bits of `w` (10_state.md R34). -/
def launch (nbits w : Nat) : HostEvent := .access (.write32 cmdAddr (BitVec.ofNat 32 (w % 2 ^ nbits)))

end Sys2Proof.Machine
end

