-- ==== Sys2Proof/Machine/Step.lean ====
section
/-! DEFINITION. One step: the next host event, whole (70_reset_and_hazards.md R302). -/

namespace Sys2Proof.Machine

/-- One step of the machine: the next host access with everything it sets off, or a reset pulse. With no event
waiting the block waits for the host and nothing changes (70_reset_and_hazards.md R290; log 2). -/
def step (s : State) : Host.Outcome State Fault Refusal :=
  match s.pending with
  | [] => .next s
  | e :: rest => hostEvent e (dropEvent rest s)

/-- `s` with the command word in the low `nbits` bits of `w` as the host's very next write to CMD: the block
fetches nothing, so this is where its next instruction comes from (10_state.md R31, R34; log 1). -/
def State.withFetchWord (s : State) (nbits w : Nat) : State :=
  { s with pending := launch nbits w :: s.pending }

end Sys2Proof.Machine
end

