-- ==== Sys2Proof/HostLine.lean ====
section
/-! DEFINITION. The host assembly syntax (30_encoding.md R130 to R132): lines of a host program, as written,
before an assembler has checked them. Numbers are as written, unbounded. -/

namespace Sys2Proof

/-- `addr` of R130: a number, a register name (its offset), or a buffer's first address plus `i`. -/
inductive HostAddr where
  | number (a : Nat)
  | register (r : Reg)
  | inBuffer (b : Buffer) (i : Nat)
deriving DecidableEq, Repr

/-- A command mnemonic with its written count (R131). -/
inductive Mnemonic where
  | nop | encode | encack | classify | csum | cschk | capture
  | timeoutSys
  | timeoutSvc (n : Nat)
  | timeoutRead (n : Nat)
  | timeoutSense
deriving DecidableEq, Repr

/-- The source of a CSRANGE: a number, or a buffer's name standing for its code in CS_SRC (R132). -/
inductive RangeSource where
  | number (n : Nat)
  | buffer (b : Buffer)
deriving DecidableEq, Repr

/-- One line of a host program: a primitive operation (R130), a command (R131) or a pseudo-instruction (R132). -/
inductive HostLine where
  | wr32 (a : HostAddr) (value : Nat)
  | rd32 (a : HostAddr)
  | wr8 (a : HostAddr) (byte : Nat)
  | rd8 (a : HostAddr)
  | command (m : Mnemonic)
  | loadTx (bytes : List Nat)
  | loadRx (bytes : List Nat)
  | csRange (src : RangeSource) (off len : Nat)
  | srst
deriving DecidableEq, Repr

end Sys2Proof
end

