-- ==== Sys2Proof/WellFormed.lean ====
section
/-! DEFINITION. What an assembler accepts (30_encoding.md R130 to R132). A term of `Instr` needs no check:
its one operand has exactly the width of its field, so every term is a word of the opcode map. The checks
are on what a host program is written with, where numbers are unbounded (log 11). -/

namespace Sys2Proof

/-- The number a written address stands for (R130). -/
def HostAddr.value : HostAddr → Nat
  | .number a => a
  | .register r => Machine.regOffset r
  | .inBuffer b i => Machine.bufAddr b i

/-- The number a CSRANGE source stands for: TXPAY 0, RXBUF 1, TXFRM 2 (R132). -/
def RangeSource.value : RangeSource → Nat
  | .number n => n
  | .buffer .txpay => 0
  | .buffer .rxbuf => 1
  | .buffer .txfrm => 2

/-- A written address fits the 20 address bits (20_memory.md R90). -/
def HostAddr.wellFormed (a : HostAddr) : Bool := decide (a.value < 2 ^ 20)

/-- "An assembler refuses TIMEOUT.SVC or TIMEOUT.READ with n outside 0..255" (R131). -/
def Mnemonic.wellFormed : Mnemonic → Bool
  | .timeoutSvc n => decide (n ≤ 255)
  | .timeoutRead n => decide (n ≤ 255)
  | _ => true

/-- Every written byte fits 8 bits. -/
def bytesFit (bs : List Nat) : Bool := bs.all (fun b => decide (b < 2 ^ 8))

/-- Whether an assembler accepts a line: addresses, words and bytes fit their widths, counts are 0..255
(R131), a LOADRX holds at most 290 bytes (R132) and a LOADTX no more than TXPAY does (20_memory.md R91). -/
def HostLine.wellFormed : HostLine → Bool
  | .wr32 a v => a.wellFormed && decide (v < 2 ^ 32)
  | .rd32 a => a.wellFormed
  | .wr8 a v => a.wellFormed && decide (v < 2 ^ 8)
  | .rd8 a => a.wellFormed
  | .command m => m.wellFormed
  | .loadTx bs => bytesFit bs && decide (bs.length ≤ Config.txpMax)
  | .loadRx bs => bytesFit bs && decide (bs.length ≤ Config.rxMax)
  | .csRange src off len =>
    decide (src.value < 2 ^ 32) && decide (off < 2 ^ 32) && decide (len < 2 ^ 32)
  | .srst => true

end Sys2Proof
end

