-- ==== Sys2Proof/Machine/Assembler.lean ====
section
/-! DEFINITION. The assembler: each line of a host program as the host-bus accesses it stands for
(30_encoding.md R130 to R132). -/

namespace Sys2Proof.Machine

/-- A written address on the bus. -/
def addrOf (a : HostAddr) : Addr := BitVec.ofNat 20 a.value

/-- The address of a register. -/
def regAddr (r : Reg) : Addr := addrOf (.register r)

/-- The command word of a mnemonic, as R131's table writes it: a number plus the count shifted into N. -/
def mnemonicWord : Mnemonic → Nat
  | .nop => 0x00000000
  | .encode => 0x00000001
  | .encack => 0x00000002
  | .classify => 0x00000003
  | .csum => 0x00000004
  | .cschk => 0x00000005
  | .capture => 0x00000006
  | .timeoutSys => 0x00000007
  | .timeoutSvc n => 0x00010007 + n * 256
  | .timeoutRead n => 0x00020007 + n * 256
  | .timeoutSense => 0x00030007

/-- The instruction a mnemonic launches (30_encoding.md R131). -/
def mnemonicInstr : Mnemonic → Instr
  | .nop => .nop
  | .encode => .encode
  | .encack => .encack
  | .classify => .classify
  | .csum => .csum
  | .cschk => .cschk
  | .capture => .capture
  | .timeoutSys => .timeoutSys 0
  | .timeoutSvc n => .timeoutSvc (BitVec.ofNat 8 n)
  | .timeoutRead n => .timeoutRead (BitVec.ofNat 8 n)
  | .timeoutSense => .timeoutSense 0

/-- `WR8` of consecutive bytes into a buffer from index `i` on (R132). -/
def writeBytes (b : Buffer) (i : Nat) (bytes : List Nat) : List HostAccess :=
  match bytes with
  | [] => []
  | v :: rest => .write8 (addrOf (.inBuffer b i)) (BitVec.ofNat 8 v) :: writeBytes b (i + 1) rest

/-- `WR32 reg, value`. -/
def writeRegister (r : Reg) (v : Nat) : HostAccess := .write32 (regAddr r) (BitVec.ofNat 32 v)

/-- The accesses a line stands for (30_encoding.md R130 to R132). -/
def expandLine : HostLine → List HostAccess
  | .wr32 a v => [.write32 (addrOf a) (BitVec.ofNat 32 v)]
  | .rd32 a => [.read32 (addrOf a)]
  | .wr8 a v => [.write8 (addrOf a) (BitVec.ofNat 8 v)]
  | .rd8 a => [.read8 (addrOf a)]
  | .command m => [writeRegister .cmd (mnemonicWord m)]
  | .loadTx bs => writeBytes .txpay 0 bs ++ [writeRegister .txLen bs.length]
  | .loadRx bs => writeBytes .rxbuf 0 bs ++ [writeRegister .rxLen bs.length]
  | .csRange src off len => [writeRegister .csSrc src.value, writeRegister .csOff off, writeRegister .csLen len]
  | .srst => [writeRegister .ctrl 1]

/-- Assembles a host program, or refuses it when a line is ill-formed (R131). -/
def assemble : List HostLine → Option (List HostAccess)
  | [] => some []
  | l :: rest =>
    if l.wellFormed then (assemble rest).map (fun as => expandLine l ++ as) else none

/-- The machine with a host program about to run (log 1). -/
def withProgram (s : State) (accesses : List HostAccess) : State :=
  { s with pending := accesses.map HostEvent.access ++ s.pending }

end Sys2Proof.Machine
end

