-- ==== Sys2Proof/Safety.lean ====
section
/-! DEFINITION. What counts as a safe run, in the terms claims use: a command whose inputs the host has set
(70_reset_and_hazards.md R293), a kept cadence (R296), and the invariant of the block's state. -/

namespace Sys2Proof.Machine

/-- The byte has been written since power-on, by the host or by a command (20_memory.md R104). -/
def isWritten (s : State) (b : Buffer) (i : Nat) : Bool := (memLookup s.mem (bufAddr b i)).isSome

/-- Every byte of `buf[off, off + len)` has been written since power-on. -/
def rangeWritten (s : State) (b : Buffer) (off len : Nat) : Bool :=
  (List.range len).all (fun i => isWritten s b (off + i))

/-- Every buffer byte the command reads has been written since power-on (70_reset_and_hazards.md R293,
30_encoding.md R122). A command that raises an error or whose inputs are registers reads none. -/
def inputsSet (i : Instr) (s : State) : Bool :=
  match i with
  | .nop => true
  | .encode => rangeWritten s .txpay 0 s.regs.txLen.toNat
  | .encack => true
  | .classify => rangeWritten s .rxbuf 0 s.regs.rxLen.toNat
  | .csum | .cschk =>
    match checksumSource s.regs.csSrc with
    | some b =>
      decide (bufSize b < s.regs.csOff.toNat + s.regs.csLen.toNat) ||
        rangeWritten s b s.regs.csOff.toNat s.regs.csLen.toNat
    | none => true
  | .capture => decide (s.regs.rxLen.toNat ≠ Config.senseLen) || rangeWritten s .rxbuf 17 16
  | .timeoutSys _ => true
  | .timeoutSvc _ => true
  | .timeoutRead _ => true
  | .timeoutSense _ => true

/-- The host has not skipped a read of the two-read cadence since reset (70_reset_and_hazards.md R296,
10_state.md R35). -/
def cadenceKept (s : State) : Bool := !s.regs.status.seqErr

/-- Every listed byte lies in a buffer region (20_memory.md R91). -/
def memInBuffers (m : Memory) : Bool := m.all (fun c => (bufferAt c.1).isSome)

/-- The invariant of the block: the list of written bytes is canonical and lies in the buffers, and the registers
stay within what their rules say they hold. -/
structure BlockInvariant (s : State) : Prop where
  /-- The written bytes are listed with addresses strictly rising. -/
  memory_canonical : memWf s.mem = true
  /-- Only buffer bytes are listed (20_memory.md R91). -/
  memory_in_buffers : memInBuffers s.mem = true
  /-- RX_LEN is 0..290 (10_state.md R38). -/
  rxLen_le : s.regs.rxLen.toNat ≤ 290
  /-- TXF_LEN is at most TXF_MAX (00_scope.md R8, 10_state.md R37). -/
  txfLen_le : s.regs.txfLen.toNat ≤ 65545
  /-- PAY_LEN is at most 282 (10_state.md R41). -/
  payLen_le : s.regs.rxTrl.payLen.toNat ≤ 282
  /-- LASTOP is bits 7:0 of the last command word (10_state.md R34, R35). -/
  lastOp_eq : s.regs.status.lastOp = s.regs.cmd.extractLsb' 0 8
  /-- Without an identity IDm and PMm read 0 (43_tag_timeout.md R220). -/
  noIdentity : s.regs.status.idValid = false →
    s.regs.idmLo = 0 ∧ s.regs.idmHi = 0 ∧ s.regs.pmmLo = 0 ∧ s.regs.pmmHi = 0
  /-- A capture hit leaves an identity (43_tag_timeout.md R222). -/
  capHit_idValid : s.regs.status.capHit = true → s.regs.status.idValid = true
  /-- KIND is NONE only when no CLASSIFY has run since reset, so nothing else of RX_STATUS is set (10_state.md R39). -/
  kindNone_flags : s.regs.rxStatus.kind = .none → s.regs.rxStatus = Regs.reset.rxStatus
  /-- The reported checksum validates against the reported sum (41_checksum.md R162). -/
  csResult_validates : (s.regs.csResult.sum.toNat + s.regs.csResult.cs.toNat) % 256 = 0
  /-- TO_TQ is at most the largest timeout (10_state.md R48, 43_tag_timeout.md R232). -/
  tq_le : s.regs.toTq.toNat ≤ 395968512
  /-- TO_COEF's a, b, e are the fields of its PMm byte (10_state.md R47, 43_tag_timeout.md R221). -/
  coef_fields : s.regs.toCoef.a.toNat = s.regs.toCoef.pbyte.toNat % 8 ∧
    s.regs.toCoef.b.toNat = s.regs.toCoef.pbyte.toNat / 8 % 8 ∧
    s.regs.toCoef.e.toNat = s.regs.toCoef.pbyte.toNat / 64
  /-- TO_MS and TO_TICKS belong to TO_TQ, or no TIMEOUT has run since reset (10_state.md R49, R50). -/
  timeout_agrees : (s.regs.toTq = 0 ∧ s.regs.toMs = Regs.reset.toMs ∧ s.regs.toTicks = Regs.reset.toTicks) ∨
    (s.regs.toMs.ms.toNat = min (max (s.regs.toTq.toNat / 10000) 1) 65535 ∧
      s.regs.toMs.lowClamp = decide (s.regs.toTq.toNat < 10000) ∧
      s.regs.toTicks.ticks.toNat = min ((s.regs.toMs.ms.toNat + 1) * 10) 0xFFFF ∧
      s.regs.toTicks.sat = decide (0xFFFF < (s.regs.toMs.ms.toNat + 1) * 10))

end Sys2Proof.Machine
end

