-- ==== Sys2Proof/Certificates/Slice0/Obligations.lean ====
section
/-! DEFINITION. The statements about the block, from the numbered rules of spec/. Bus addresses, sizes and formulas are
written out as the rules give them. Every statement about a free value (the start marker, the byte of a power-on) holds
whatever it is. -/

open Sys2Proof Sys2Proof.Machine

/-! ## The command word -/

/-- The decoder reads every instruction back from its word, with every count (30_encoding.md R123, R129). That TIMEOUT.SYS and
TIMEOUT.SENSE have a count to read back is the model's choice (log 8). -/
def Obligations.DecodeInvertsEncode : Prop :=
  ∀ i : Instr, decode (encode i) = .ok i

/-- A word the decoder accepts is the word of the instruction it reads: no bit is dropped (30_encoding.md R123). For the words
of TIMEOUT.SYS and TIMEOUT.SENSE this is the model's choice (log 8): the instruction keeps the N it ignores, where R129
returns the command without it. -/
def Obligations.EncodeInvertsDecode : Prop :=
  ∀ (w : Word) (i : Instr), decode w = .ok i → encode i = w

/-- R128: every command word selects exactly one row of the opcode map, or none and raises one of the three decoding
errors. -/
def Obligations.EveryWordHasOneOutcome : Prop :=
  ∀ w : Word,
    (∃ r ∈ opcodeTable, r.selects w = true ∧ (∀ r' ∈ opcodeTable, r'.selects w = true → r' = r) ∧
      ∃ i, decode w = .ok i ∧ i.mnemonic = r.mnemonic) ∨
    ((∀ r ∈ opcodeTable, r.selects w = false) ∧
      ∃ e, decode w = .err e ∧ (e = .illop ∨ e = .rsvd ∨ e = .kind))

/-- R124 to R126: the words with an illegal opcode, with reserved bits set, or with K in 4..15 raise ERR_ILLOP, ERR_RSVD and
ERR_KIND; nothing changes but CMD, LASTOP and ERR. -/
def Obligations.IllegalWordsRaiseTheirError : Prop :=
  ∀ (w : Word) (s : State),
    (8 ≤ w.toNat % 256 → runCommand w s = .next { s with regs := { s.regs with
      cmd := w, status := { s.regs.status with lastOp := w.extractLsb' 0 8, err := some .illop } } }) ∧
    (w.toNat % 256 ≤ 6 → w.toNat / 256 ≠ 0 → runCommand w s = .next { s with regs := { s.regs with
      cmd := w, status := { s.regs.status with lastOp := w.extractLsb' 0 8, err := some .rsvd } } }) ∧
    (w.toNat % 256 = 7 → w.toNat / 2 ^ 20 ≠ 0 → runCommand w s = .next { s with regs := { s.regs with
      cmd := w, status := { s.regs.status with lastOp := w.extractLsb' 0 8, err := some .rsvd } } }) ∧
    (w.toNat % 256 = 7 → w.toNat / 2 ^ 20 = 0 → 4 ≤ w.toNat / 2 ^ 16 % 16 →
      runCommand w s = .next { s with regs := { s.regs with
        cmd := w, status := { s.regs.status with lastOp := w.extractLsb' 0 8, err := some .kind } } })

/-- Words written out from the encoding tables decode to the instructions they stand for (R121, R123). -/
def Obligations.WrittenOutWordsDecode : Prop :=
  decode 0x00000001 = .ok .encode ∧ decode 0x00000005 = .ok .cschk ∧ decode 0x00000006 = .ok .capture ∧
    decode 0x0000FF07 = .ok (.timeoutSys 255) ∧ decode 0x00010407 = .ok (.timeoutSvc 4) ∧
    decode 0x00020307 = .ok (.timeoutRead 3) ∧ decode 0x00030007 = .ok (.timeoutSense 0) ∧
    decode 0x00040007 = .err .kind

/-! ## Steps -/

/-- A host write of an instruction's word to CMD runs that instruction, after CMD and LASTOP are written, and the host sees
an accepted write; a write of any other word raises the decoder's error (10_state.md R34, 40_control.md R150). -/
def Obligations.StepRunsDecodedCommand : Prop :=
  ∀ (s : State) (w : Word) (i : Instr) (rest : List HostEvent),
    s.pending = .access (.write32 0x00004 w) :: rest →
    (decode w = .ok i →
      ∃ t, exec i { s with pending := rest, regs := { s.regs with
              cmd := w, status := { s.regs.status with lastOp := w.extractLsb' 0 8 } } } = .next t ∧
        step s = .next { t with observed := t.observed ++ [.accepted] }) ∧
    (∀ e, decode w = .err e →
      step s = .next { s with pending := rest, observed := s.observed ++ [.accepted], regs := { s.regs with
        cmd := w, status := { s.regs.status with lastOp := w.extractLsb' 0 8, err := some e } } })

/-- Nothing stops the block: every host event has a next state, every refused access and every failing command among them.
That both kinds of error are next states is the model's reading (log 5) of 60_exceptions.md R260; that a step with no event
waiting exists, and waits, is the model's choice (log 2). -/
def Obligations.EveryStepAnswersNext : Prop :=
  ∀ s : State, ∃ t, step s = .next t

/-- Every step keeps the invariant of the block, from every state that has it. -/
def Obligations.StepKeepsBlockInvariant : Prop :=
  ∀ s t : State, BlockInvariant s → step s = .next t → BlockInvariant t

/-- The state after reset has the invariant of the block. -/
def Obligations.ResetHasBlockInvariant : Prop :=
  BlockInvariant State.reset

/-- With no host event waiting the block waits and nothing changes. That a step then answers the same state is the model's
choice (log 2), resting on "after reset the block waits for host accesses" (70_reset_and_hazards.md R290). -/
def Obligations.WaitingBlockStaysAsItIs : Prop :=
  ∀ s : State, s.pending = [] → step s = .next s

/-! ## The host bus -/

/-- R92 to R95: an access of the wrong width, misaligned, unmapped, or a write to TXFRM is refused; nothing of the block
changes and a refused read carries the data value 0. -/
def Obligations.RefusedAccessesChangeNothing : Prop :=
  ∀ (s : State) (rest : List HostEvent) (a : Addr) (v : Word) (b : Byte),
    (s.pending = .access (.read32 a) :: rest → (0x100 ≤ a.toNat ∨ a.toNat % 4 ≠ 0) →
      step s = .next { s with pending := rest, observed := s.observed ++ [.refusedRead 0] }) ∧
    (s.pending = .access (.write32 a v) :: rest → (0x100 ≤ a.toNat ∨ a.toNat % 4 ≠ 0) →
      step s = .next { s with pending := rest, observed := s.observed ++ [.refusedWrite] }) ∧
    (s.pending = .access (.read8 a) :: rest → ¬ (0x01000 ≤ a.toNat ∧ a.toNat ≤ 0x01121) →
      ¬ (0x20000 ≤ a.toNat ∧ a.toNat ≤ 0x2FFFE) → ¬ (0x40000 ≤ a.toNat ∧ a.toNat ≤ 0x50008) →
      step s = .next { s with pending := rest, observed := s.observed ++ [.refusedRead 0] }) ∧
    (s.pending = .access (.write8 a b) :: rest → ¬ (0x01000 ≤ a.toNat ∧ a.toNat ≤ 0x01121) →
      ¬ (0x20000 ≤ a.toNat ∧ a.toNat ≤ 0x2FFFE) →
      step s = .next { s with pending := rest, observed := s.observed ++ [.refusedWrite] })

/-- A 1-byte write to RXBUF or TXPAY changes that byte and no other, and no register; a 1-byte read in any buffer region
gives the byte held there (20_memory.md R91, R105, R109). -/
def Obligations.BufferAccessesReadAndWriteOneByte : Prop :=
  ∀ (s : State) (rest : List HostEvent) (a : Addr) (v : Byte),
    (s.pending = .access (.write8 a v) :: rest →
      ((0x01000 ≤ a.toNat ∧ a.toNat ≤ 0x01121) ∨ (0x20000 ≤ a.toNat ∧ a.toNat ≤ 0x2FFFE)) →
      ∃ t, step s = .next t ∧ byteAt t a.toNat = v ∧ (∀ x, x ≠ a.toNat → byteAt t x = byteAt s x) ∧
        t = { s with mem := t.mem, pending := rest, observed := s.observed ++ [.accepted] }) ∧
    (s.pending = .access (.read8 a) :: rest →
      ((0x01000 ≤ a.toNat ∧ a.toNat ≤ 0x01121) ∨ (0x20000 ≤ a.toNat ∧ a.toNat ≤ 0x2FFFE) ∨
        (0x40000 ≤ a.toNat ∧ a.toNat ≤ 0x50008)) →
      step s = .next { s with pending := rest, observed := s.observed ++ [.byte (byteAt s a.toNat)] })

/-- Every read is free of side effects and idempotent: two reads of one address with nothing between them return the same
and each leaves the block as it was, but for the event taken and the response recorded (20_memory.md R97). -/
def Obligations.ReadsChangeNothingAndRepeat : Prop :=
  ∀ (s : State) (rest : List HostEvent) (r : HostAccess),
    (∃ a, r = .read32 a ∨ r = .read8 a) → s.pending = .access r :: .access r :: rest →
      ∃ x,
        step s = .next { s with pending := .access r :: rest, observed := s.observed ++ [x] } ∧
        step { s with pending := .access r :: rest, observed := s.observed ++ [x] } =
          .next { s with pending := rest, observed := s.observed ++ [x, x] }

/-- The RW registers TX_LEN, CS_SRC, CS_OFF, CS_LEN and CS_EXPECT store the low bits of the written word and nothing else
changes (10_state.md R36, R42 to R45). -/
def Obligations.WritableRegistersStoreTheirBits : Prop :=
  ∀ (s : State) (rest : List HostEvent) (v : Word),
    (s.pending = .access (.write32 0x0000C v) :: rest →
      ∃ x : BitVec 16, x.toNat = v.toNat % 2 ^ 16 ∧ step s = .next { s with
        pending := rest, observed := s.observed ++ [.accepted], regs := { s.regs with txLen := x } }) ∧
    (s.pending = .access (.write32 0x00024 v) :: rest →
      ∃ x : BitVec 2, x.toNat = v.toNat % 2 ^ 2 ∧ step s = .next { s with
        pending := rest, observed := s.observed ++ [.accepted], regs := { s.regs with csSrc := x } }) ∧
    (s.pending = .access (.write32 0x00028 v) :: rest →
      ∃ x : BitVec 17, x.toNat = v.toNat % 2 ^ 17 ∧ step s = .next { s with
        pending := rest, observed := s.observed ++ [.accepted], regs := { s.regs with csOff := x } }) ∧
    (s.pending = .access (.write32 0x0002C v) :: rest →
      ∃ x : BitVec 17, x.toNat = v.toNat % 2 ^ 17 ∧ step s = .next { s with
        pending := rest, observed := s.observed ++ [.accepted], regs := { s.regs with csLen := x } }) ∧
    (s.pending = .access (.write32 0x00030 v) :: rest →
      ∃ x : BitVec 8, x.toNat = v.toNat % 2 ^ 8 ∧ step s = .next { s with
        pending := rest, observed := s.observed ++ [.accepted], regs := { s.regs with csExpect := x } })

/-- R38: RX_LEN is WARL, a write of `v` stores `min(v, 290)`, and a read then gives it; it resets to 0. -/
def Obligations.RxLenStoresAtMost290 : Prop :=
  State.reset.regs.rxLen = 0 ∧
  ∀ (s : State) (rest : List HostEvent) (v : Word),
    s.pending = .access (.write32 0x00014 v) :: rest →
      ∃ x : BitVec 9, x.toNat = min v.toNat 290 ∧
        (∃ t, step s = .next t ∧ (readReg t .rxLen).toNat = min v.toNat 290 ∧ t = { s with
          pending := rest, observed := s.observed ++ [.accepted], regs := { s.regs with rxLen := x } })

/-- R53: the reserved offsets 0x58 to 0xFC read 0, and a write to one is accepted and ignored. -/
def Obligations.ReservedOffsetsReadZeroIgnoreWrites : Prop :=
  ∀ (s : State) (rest : List HostEvent) (a : Addr) (v : Word), 0x58 ≤ a.toNat → a.toNat ≤ 0xFC → a.toNat % 4 = 0 →
    (s.pending = .access (.read32 a) :: rest →
      step s = .next { s with pending := rest, observed := s.observed ++ [.word 0] }) ∧
    (s.pending = .access (.write32 a v) :: rest →
      step s = .next { s with pending := rest, observed := s.observed ++ [.accepted] })

/-- A host write to a read-only register is accepted and changes nothing (20_memory.md R98). -/
def Obligations.ReadOnlyRegistersIgnoreWrites : Prop :=
  ∀ (s : State) (rest : List HostEvent) (a : Addr) (v : Word),
    a.toNat ∈ [0x08, 0x10, 0x18, 0x1C, 0x20, 0x34, 0x38, 0x3C, 0x40, 0x44, 0x48, 0x4C, 0x50, 0x54] →
    s.pending = .access (.write32 a v) :: rest →
      step s = .next { s with pending := rest, observed := s.observed ++ [.accepted] }

/-- The bits of STATUS as the host reads them (10_state.md R35, 60_exceptions.md R261). -/
def Obligations.StatusReadsItsFieldsInPlace : Prop :=
  ∀ (s : State) (rest : List HostEvent), s.pending = .access (.read32 0x00008) :: rest →
    ∃ w : Word, step s = .next { s with pending := rest, observed := s.observed ++ [.word w] } ∧
      w.toNat =
        (match s.regs.status.err with
          | none => 0 | some .illop => 1 | some .rsvd => 2 | some .kind => 3 | some .noid => 4 | some .range => 5)
        + 2 ^ 4 * (match s.regs.status.cadence with | .idle => 0 | .awaitAck => 1 | .awaitResp => 2)
        + 2 ^ 8 * s.regs.status.seqErr.toNat + 2 ^ 16 * s.regs.status.idValid.toNat
        + 2 ^ 17 * s.regs.status.capHit.toNat + 2 ^ 24 * s.regs.status.lastOp.toNat

/-- Host reads of RX_STATUS, RX_HDR and RX_TRL, each at its offset, answer their fields at their bits
(10_state.md R39 to R41). -/
def Obligations.ReceiveRegistersReadTheirFieldsInPlace : Prop :=
  ∀ (s : State) (rest : List HostEvent),
    (step { s with pending := .access (.read32 0x00018) :: rest } =
        .next { s with pending := rest, observed := s.observed ++ [.word (readReg s .rxStatus)] } ∧
      (readReg s .rxStatus).toNat =
        (match s.regs.rxStatus.kind with | .none => 0 | .ack => 1 | .success => 2 | .failure => 3)
        + 2 ^ 2 * s.regs.rxStatus.sigMatch.toNat + 2 ^ 3 * s.regs.rxStatus.ackMatch.toNat
        + 2 ^ 4 * s.regs.rxStatus.hdrOk.toNat + 2 ^ 5 * s.regs.rxStatus.lcsOk.toNat
        + 2 ^ 6 * s.regs.rxStatus.dcsOk.toNat + 2 ^ 7 * s.regs.rxStatus.postOk.toNat
        + 2 ^ 8 * s.regs.rxStatus.isShort.toNat + 2 ^ 9 * s.regs.rxStatus.isLong.toNat
        + 2 ^ 10 * s.regs.rxStatus.len37.toNat) ∧
    (step { s with pending := .access (.read32 0x0001C) :: rest } =
        .next { s with pending := rest, observed := s.observed ++ [.word (readReg s .rxHdr)] } ∧
      (readReg s .rxHdr).toNat = s.regs.rxHdr.len.toNat + 2 ^ 16 * s.regs.rxHdr.lcs.toNat) ∧
    (step { s with pending := .access (.read32 0x00020) :: rest } =
        .next { s with pending := rest, observed := s.observed ++ [.word (readReg s .rxTrl)] } ∧
      (readReg s .rxTrl).toNat =
        s.regs.rxTrl.dcs.toNat + 2 ^ 8 * s.regs.rxTrl.post.toNat + 2 ^ 16 * s.regs.rxTrl.payLen.toNat)

/-- Host reads of CS_RESULT, TO_COEF, TO_TQ, TO_MS and TO_TICKS, each at its offset, answer their fields at their bits
(10_state.md R46 to R50). -/
def Obligations.ResultRegistersReadTheirFieldsInPlace : Prop :=
  ∀ (s : State) (rest : List HostEvent),
    (step { s with pending := .access (.read32 0x00034) :: rest } =
        .next { s with pending := rest, observed := s.observed ++ [.word (readReg s .csResult)] } ∧
      (readReg s .csResult).toNat =
        s.regs.csResult.cs.toNat + 2 ^ 8 * s.regs.csResult.sum.toNat + 2 ^ 16 * s.regs.csResult.valid.toNat) ∧
    (step { s with pending := .access (.read32 0x00038) :: rest } =
        .next { s with pending := rest, observed := s.observed ++ [.word (readReg s .toCoef)] } ∧
      (readReg s .toCoef).toNat =
        s.regs.toCoef.a.toNat + 2 ^ 3 * s.regs.toCoef.b.toNat + 2 ^ 6 * s.regs.toCoef.e.toNat
        + 2 ^ 8 * s.regs.toCoef.pbyte.toNat + 2 ^ 16 * s.regs.toCoef.pidx.toNat + 2 ^ 20 * s.regs.toCoef.n.toNat
        + 2 ^ 28 * (match s.regs.toCoef.kind with | .sys => 0 | .svc => 1 | .read => 2 | .sense => 3)) ∧
    (step { s with pending := .access (.read32 0x0003C) :: rest } =
        .next { s with pending := rest, observed := s.observed ++ [.word (readReg s .toTq)] } ∧
      (readReg s .toTq).toNat = s.regs.toTq.toNat) ∧
    (step { s with pending := .access (.read32 0x00040) :: rest } =
        .next { s with pending := rest, observed := s.observed ++ [.word (readReg s .toMs)] } ∧
      (readReg s .toMs).toNat = s.regs.toMs.ms.toNat + 2 ^ 16 * s.regs.toMs.lowClamp.toNat) ∧
    (step { s with pending := .access (.read32 0x00044) :: rest } =
        .next { s with pending := rest, observed := s.observed ++ [.word (readReg s .toTicks)] } ∧
      (readReg s .toTicks).toNat = s.regs.toTicks.ticks.toNat + 2 ^ 16 * s.regs.toTicks.sat.toNat)

/-- Host reads of CTRL, CMD and the length, checksum-input and identity registers, each at its offset: CTRL answers 0, the
others their one field in the lowest bits (10_state.md R33, R34, R36 to R38, R42 to R45, R51, R52). -/
def Obligations.OneFieldRegistersReadAtTheirOffsets : Prop :=
  ∀ (s : State) (rest : List HostEvent) (a : Addr) (v : Nat),
    (a, v) ∈ ([(0x00000, 0), (0x00004, s.regs.cmd.toNat), (0x0000C, s.regs.txLen.toNat),
      (0x00010, s.regs.txfLen.toNat), (0x00014, s.regs.rxLen.toNat), (0x00024, s.regs.csSrc.toNat),
      (0x00028, s.regs.csOff.toNat), (0x0002C, s.regs.csLen.toNat), (0x00030, s.regs.csExpect.toNat),
      (0x00048, s.regs.idmLo.toNat), (0x0004C, s.regs.idmHi.toNat), (0x00050, s.regs.pmmLo.toNat),
      (0x00054, s.regs.pmmHi.toNat)] : List (Addr × Nat)) →
    ∃ w : Word, w.toNat = v ∧ step { s with pending := .access (.read32 a) :: rest } =
      .next { s with pending := rest, observed := s.observed ++ [.word w] }

/-- The register map: a host read at each register's offset answers that register's word, and these are all the registers
(10_state.md section 2, 20_memory.md R109). -/
def Obligations.EveryRegisterReadsAtItsOffset : Prop :=
  ∀ r : Reg, ∃ a : Addr,
    (a, r) ∈ ([(0x00000, .ctrl), (0x00004, .cmd), (0x00008, .status), (0x0000C, .txLen), (0x00010, .txfLen),
      (0x00014, .rxLen), (0x00018, .rxStatus), (0x0001C, .rxHdr), (0x00020, .rxTrl), (0x00024, .csSrc),
      (0x00028, .csOff), (0x0002C, .csLen), (0x00030, .csExpect), (0x00034, .csResult), (0x00038, .toCoef),
      (0x0003C, .toTq), (0x00040, .toMs), (0x00044, .toTicks), (0x00048, .idmLo), (0x0004C, .idmHi),
      (0x00050, .pmmLo), (0x00054, .pmmHi)] : List (Addr × Reg)) ∧
    ∀ (s : State) (rest : List HostEvent),
      step { s with pending := .access (.read32 a) :: rest } =
        .next { s with pending := rest, observed := s.observed ++ [.word (readReg s r)] }

/-! ## Reset -/

/-- R56: after either reset every register reads 0, the cadence is IDLE, the kind NONE and no identity is valid. -/
def Obligations.EveryRegisterResetsToZero : Prop :=
  ∀ t : State, (t = State.reset ∨ (∃ s, t = softReset s) ∨ (∃ s, t = powerOn s)) →
    (∀ r : Reg, readReg t r = 0) ∧ t.regs = Regs.reset ∧ t.regs.status.cadence = .idle ∧
      t.regs.rxStatus.kind = .none ∧ t.regs.status.idValid = false

/-- R291: a write to CTRL with bit 0 set puts every register at its reset value and keeps every buffer byte; one with bit 0
clear does nothing. -/
def Obligations.SoftResetClearsRegistersKeepsBuffers : Prop :=
  ∀ (s : State) (rest : List HostEvent) (v : Word), s.pending = .access (.write32 0x00000 v) :: rest →
    (v.toNat % 2 = 1 → ∃ t, step s = .next t ∧ (∀ r : Reg, readReg t r = 0) ∧ (∀ a, byteAt t a = byteAt s a) ∧
      t = { s with regs := Regs.reset, pending := rest, observed := s.observed ++ [.accepted] }) ∧
    (v.toNat % 2 = 0 → step s = .next { s with pending := rest, observed := s.observed ++ [.accepted] })

/-- A pulse of the reset input clears every register, leaves every buffer byte unspecified (a fresh free draw, whatever its
value) and keeps what the host will do next. That the pulse is an event between accesses is the model's choice (log 7);
the rest is 70_reset_and_hazards.md R290 and R292. -/
def Obligations.PowerOnClearsRegistersAndUnwritesBuffers : Prop :=
  ∀ (s : State) (rest : List HostEvent), s.pending = .powerOnReset :: rest →
    ∃ t, step s = .next t ∧ (∀ r : Reg, readReg t r = 0) ∧ (∀ b i, isWritten t b i = false) ∧
      (∀ a, byteAt t a = Config.powerOnByte (s.powerOns + 1) a) ∧ t.pending = rest

/-! ## The envelope -/

/-- R263: a command that ends with an error code changed nothing but CMD, LASTOP and ERR. -/
def Obligations.CommandErrorsArePrecise : Prop :=
  ∀ (w : Word) (s t : State), runCommand w s = .next t → t.regs.status.err ≠ none →
    t = { s with regs := { s.regs with
      cmd := w, status := { s.regs.status with lastOp := w.extractLsb' 0 8, err := t.regs.status.err } } }

/-- A host write to CMD leaves the word in CMD and its low byte in LASTOP, whether or not its command raised an error
(10_state.md R34, R35). -/
def Obligations.CmdReadsBackTheLastWord : Prop :=
  ∀ (s : State) (rest : List HostEvent) (w : Word), s.pending = .access (.write32 0x00004 w) :: rest →
    ∃ t, step s = .next t ∧ readReg t .cmd = w ∧ t.regs.status.lastOp.toNat = w.toNat % 256 ∧
      t.pending = rest ∧ t.observed = s.observed ++ [.accepted] ∧ t.powerOns = s.powerOns

/-- NOP clears STATUS.ERR and changes nothing else; its word also writes CMD and LASTOP 0 (40_control.md R150, R151). -/
def Obligations.NopOnlyClearsTheError : Prop :=
  ∀ s : State,
    exec .nop s = .next { s with regs := { s.regs with status := { s.regs.status with err := none } } } ∧
    runCommand 0x00000000 s = .next { s with regs := { s.regs with
      cmd := 0, status := { s.regs.status with lastOp := 0, err := none } } }

/-! ## The checksum unit -/

/-- R160, R161: `sum8` is the byte sum modulo 256 and `cs` the floor remainder of 256 minus it; the three forms R161 gives
agree, and the empty sequence gives 0. -/
def Obligations.ChecksumIsTheFloorRemainder : Prop :=
  (∀ s : List Byte,
    (sum8 s).toNat = (s.map BitVec.toNat).sum % 256 ∧
    ((cs s).toNat : Int) = (256 - ((s.map BitVec.toNat).sum : Int)) % 256 ∧
    ((cs s).toNat : Int) = (256 - ((sum8 s).toNat : Int)) % 256 ∧
    ((cs s).toNat : Int) = (-((s.map BitVec.toNat).sum : Int)) % 256) ∧
  sum8 [] = 0 ∧ cs [] = 0

/-- R162: a byte validates against a sequence exactly when it is the sequence's checksum. -/
def Obligations.OnlyTheChecksumValidates : Prop :=
  ∀ (s : List Byte) (c : Byte),
    (((sum8 s).toNat + c.toNat) % 256 = 0 ↔ c = cs s) ∧ (validates s c = true ↔ c = cs s)

/-- CSUM over a legal range writes the sum and the checksum of the range's bytes, with OK 0, and nothing else but ERR 0
(41_checksum.md R163, R164). -/
def Obligations.CsumReportsSumAndChecksum : Prop :=
  ∀ (s : State) (base size : Nat),
    ((s.regs.csSrc = 0 ∧ base = 0x20000 ∧ size = 65535) ∨ (s.regs.csSrc = 1 ∧ base = 0x01000 ∧ size = 290) ∨
      (s.regs.csSrc = 2 ∧ base = 0x40000 ∧ size = 65545)) →
    s.regs.csOff.toNat + s.regs.csLen.toNat ≤ size →
    ∃ r : CsResult,
      exec .csum s = .next { s with regs := { s.regs with
        csResult := r, status := { s.regs.status with err := none } } } ∧
      r.sum.toNat =
        (∑ i ∈ Finset.range s.regs.csLen.toNat, (byteAt s (base + s.regs.csOff.toNat + i)).toNat) % 256 ∧
      (r.sum.toNat + r.cs.toNat) % 256 = 0 ∧ r.valid = false

/-- CSCHK over a legal range reports the same, with OK 1 exactly when CS_EXPECT is the checksum, and nothing else but ERR 0
(41_checksum.md R163, R165). -/
def Obligations.CschkSaysWhetherTheByteValidates : Prop :=
  ∀ (s : State) (base size : Nat),
    ((s.regs.csSrc = 0 ∧ base = 0x20000 ∧ size = 65535) ∨ (s.regs.csSrc = 1 ∧ base = 0x01000 ∧ size = 290) ∨
      (s.regs.csSrc = 2 ∧ base = 0x40000 ∧ size = 65545)) →
    s.regs.csOff.toNat + s.regs.csLen.toNat ≤ size →
    ∃ r : CsResult,
      exec .cschk s = .next { s with regs := { s.regs with
        csResult := r, status := { s.regs.status with err := none } } } ∧
      r.sum.toNat =
        (∑ i ∈ Finset.range s.regs.csLen.toNat, (byteAt s (base + s.regs.csOff.toNat + i)).toNat) % 256 ∧
      (r.sum.toNat + r.cs.toNat) % 256 = 0 ∧ (r.valid = true ↔ s.regs.csExpect = r.cs)

/-- An illegal checksum range makes CSUM and CSCHK raise ERR_RANGE and change nothing else (41_checksum.md R163). -/
def Obligations.IllegalChecksumRangesTrap : Prop :=
  ∀ (s : State) (i : Instr), (i = .csum ∨ i = .cschk) →
    (s.regs.csSrc = 3 ∨ (s.regs.csSrc = 0 ∧ 65535 < s.regs.csOff.toNat + s.regs.csLen.toNat) ∨
      (s.regs.csSrc = 1 ∧ 290 < s.regs.csOff.toNat + s.regs.csLen.toNat) ∨
      (s.regs.csSrc = 2 ∧ 65545 < s.regs.csOff.toNat + s.regs.csLen.toNat)) →
    exec i s = .next { s with regs := { s.regs with status := { s.regs.status with err := some .range } } }

/-! ## The frame codec -/

/-- The start marker is never the pair that would make every frame an error frame, whatever else it is (00_scope.md R10). -/
def Obligations.StartMarkerIsNeverTheForbiddenPair : Prop :=
  Config.startMarker ≠ (0x00, 0xFF)

/-- ENCODE completes for every payload length: TXFRM holds the frame of R180 field by field, every other byte is as before,
and only TXF_LEN, the cadence, SEQERR and ERR change (42_frame_codec.md R180, R183). -/
def Obligations.EncodeBuildsTheCommandFrame : Prop :=
  ∀ s : State, ∃ t, exec .encode s = .next t ∧
    bufByte t .txfrm 0 = 0x00 ∧ bufByte t .txfrm 1 = 0x00 ∧ bufByte t .txfrm 2 = 0xFF ∧
    bufByte t .txfrm 3 = Config.startMarker.1 ∧ bufByte t .txfrm 4 = Config.startMarker.2 ∧
    (bufByte t .txfrm 5).toNat = s.regs.txLen.toNat % 256 ∧ (bufByte t .txfrm 6).toNat = s.regs.txLen.toNat / 256 ∧
    ((bufByte t .txfrm 5).toNat + (bufByte t .txfrm 6).toNat + (bufByte t .txfrm 7).toNat) % 256 = 0 ∧
    (∀ i < s.regs.txLen.toNat, bufByte t .txfrm (8 + i) = bufByte s .txpay i) ∧
    ((∑ i ∈ Finset.range s.regs.txLen.toNat, (bufByte s .txpay i).toNat)
      + (bufByte t .txfrm (8 + s.regs.txLen.toNat)).toNat) % 256 = 0 ∧
    bufByte t .txfrm (9 + s.regs.txLen.toNat) = 0x00 ∧
    (∀ a, (∀ i < s.regs.txLen.toNat + 10, a ≠ bufAddr .txfrm i) → byteAt t a = byteAt s a) ∧
    t = { s with
      mem := t.mem
      regs := { s.regs with
        txfLen := BitVec.ofNat 17 (s.regs.txLen.toNat + 10)
        status := { s.regs.status with
          err := none, cadence := .awaitAck
          seqErr := s.regs.status.seqErr || decide (s.regs.status.cadence ≠ .idle) } } }

/-- ENCACK completes: TXFRM starts with the six bytes of the Acknowledgement, every other byte is as before, and only
TXF_LEN and ERR change (42_frame_codec.md R184). -/
def Obligations.EncackBuildsTheAcknowledgement : Prop :=
  ∀ s : State, ∃ t, exec .encack s = .next t ∧
    bufByte t .txfrm 0 = 0x00 ∧ bufByte t .txfrm 1 = 0x00 ∧ bufByte t .txfrm 2 = 0xFF ∧
    bufByte t .txfrm 3 = 0x00 ∧ bufByte t .txfrm 4 = 0xFF ∧ bufByte t .txfrm 5 = 0x00 ∧
    (∀ a, (∀ i < 6, a ≠ bufAddr .txfrm i) → byteAt t a = byteAt s a) ∧
    t = { s with
      mem := t.mem
      regs := { s.regs with txfLen := 6, status := { s.regs.status with err := none } } }

/-- R188: CLASSIFY completes on every received frame, with every field of RX_STATUS, RX_HDR and RX_TRL but KIND as the rule
computes it; it changes nothing else but KIND, the cadence and ERR, and no byte of memory. -/
def Obligations.ClassifyReportsTheParse : Prop :=
  ∀ (s : State) (L len : Nat) (ext : Nat → Byte),
    L = s.regs.rxLen.toNat → (∀ i, ext i = if i < L then bufByte s .rxbuf i else 0) →
    len = (ext 5).toNat + 256 * (ext 6).toNat →
    ∃ t, exec .classify s = .next t ∧
      t.regs.rxHdr.len.toNat = len ∧ t.regs.rxHdr.lcs = ext 7 ∧
      t.regs.rxTrl.dcs = ext (8 + len) ∧ t.regs.rxTrl.post = ext (9 + len) ∧
      t.regs.rxTrl.payLen.toNat = min len (L - 8) ∧
      (t.regs.rxStatus.sigMatch = true ↔ 5 ≤ L ∧ bufByte s .rxbuf 0 = 0x00 ∧ bufByte s .rxbuf 1 = 0x00 ∧
        bufByte s .rxbuf 2 = 0xFF ∧ bufByte s .rxbuf 3 = 0x00 ∧ bufByte s .rxbuf 4 = 0xFF) ∧
      (t.regs.rxStatus.ackMatch = true ↔ L = 6 ∧ bufByte s .rxbuf 0 = 0x00 ∧ bufByte s .rxbuf 1 = 0x00 ∧
        bufByte s .rxbuf 2 = 0xFF ∧ bufByte s .rxbuf 3 = 0x00 ∧ bufByte s .rxbuf 4 = 0xFF ∧
        bufByte s .rxbuf 5 = 0x00) ∧
      (t.regs.rxStatus.hdrOk = true ↔ 5 ≤ L ∧ bufByte s .rxbuf 0 = 0x00 ∧ bufByte s .rxbuf 1 = 0x00 ∧
        bufByte s .rxbuf 2 = 0xFF ∧ bufByte s .rxbuf 3 = Config.startMarker.1 ∧
        bufByte s .rxbuf 4 = Config.startMarker.2) ∧
      (t.regs.rxStatus.lcsOk = true ↔ 8 ≤ L ∧ ((bufByte s .rxbuf 5).toNat + (bufByte s .rxbuf 6).toNat
        + (bufByte s .rxbuf 7).toNat) % 256 = 0) ∧
      (t.regs.rxStatus.dcsOk = true ↔ 9 + len ≤ L ∧ ((∑ i ∈ Finset.range len, (bufByte s .rxbuf (8 + i)).toNat)
        + (bufByte s .rxbuf (8 + len)).toNat) % 256 = 0) ∧
      (t.regs.rxStatus.postOk = true ↔ 10 + len ≤ L ∧ bufByte s .rxbuf (9 + len) = 0x00) ∧
      (t.regs.rxStatus.isShort = true ↔ L < len + 10) ∧
      (t.regs.rxStatus.isLong = true ↔ len + 10 < L) ∧
      (t.regs.rxStatus.len37 = true ↔ L = 37) ∧
      t = { s with regs := { s.regs with
        rxStatus := t.regs.rxStatus, rxHdr := t.regs.rxHdr, rxTrl := t.regs.rxTrl
        status := { s.regs.status with err := none, cadence := t.regs.status.cadence } } }

/-- R186, R187: the cadence slot moves as the table says under every command and every error; KIND is ACK in the ACK slot and
otherwise FAILURE exactly when the frame begins with the error signature. -/
def Obligations.CadenceFollowsTheTwoReadTable : Prop :=
  ∀ s : State,
    (∃ t, exec .encode s = .next t ∧ t.regs.status.cadence = .awaitAck ∧
      (t.regs.status.seqErr = true ↔ s.regs.status.seqErr = true ∨ s.regs.status.cadence ≠ .idle)) ∧
    (∃ t, exec .classify s = .next t ∧
      (s.regs.status.cadence = .awaitAck → t.regs.status.cadence = .awaitResp ∧ t.regs.rxStatus.kind = .ack) ∧
      (s.regs.status.cadence ≠ .awaitAck → t.regs.status.cadence = .idle ∧
        ((5 ≤ s.regs.rxLen.toNat ∧ bufByte s .rxbuf 0 = 0x00 ∧ bufByte s .rxbuf 1 = 0x00 ∧
            bufByte s .rxbuf 2 = 0xFF ∧ bufByte s .rxbuf 3 = 0x00 ∧ bufByte s .rxbuf 4 = 0xFF) →
          t.regs.rxStatus.kind = .failure) ∧
        (¬ (5 ≤ s.regs.rxLen.toNat ∧ bufByte s .rxbuf 0 = 0x00 ∧ bufByte s .rxbuf 1 = 0x00 ∧
            bufByte s .rxbuf 2 = 0xFF ∧ bufByte s .rxbuf 3 = 0x00 ∧ bufByte s .rxbuf 4 = 0xFF) →
          t.regs.rxStatus.kind = .success))) ∧
    (∀ i t, i ≠ .encode → i ≠ .classify → exec i s = .next t →
      t.regs.status.cadence = s.regs.status.cadence) ∧
    (∀ w t, runCommand w s = .next t → t.regs.status.err ≠ none →
      t.regs.status.cadence = s.regs.status.cadence) ∧
    State.reset.regs.status.cadence = .idle ∧ (softReset s).regs.status.cadence = .idle ∧
    (powerOn s).regs.status.cadence = .idle

/-- CLASSIFY never takes a byte beyond the received length: states with the same registers and the same received bytes get
the same registers (42_frame_codec.md R185, 20_memory.md R103). -/
def Obligations.ClassifyIgnoresBytesBeyondTheFrame : Prop :=
  ∀ s s' : State, s'.regs = s.regs →
    (∀ i < s.regs.rxLen.toNat, bufByte s' .rxbuf i = bufByte s .rxbuf i) →
    ∃ t t', exec .classify s = .next t ∧ exec .classify s' = .next t' ∧ t'.regs = t.regs

/-- R191: a frame ENCODE built from at most 280 bytes, copied to RXBUF and classified outside the ACK slot, is a SUCCESS with
the payload, its length and both checksums intact; a longer payload gives a frame RXBUF cannot hold. -/
def Obligations.EncodeThenClassifyRoundTrips : Prop :=
  (∀ s t : State, exec .encode s = .next t → (290 < t.regs.txfLen.toNat ↔ 280 < s.regs.txLen.toNat)) ∧
  ∀ s t u : State, s.regs.txLen.toNat ≤ 280 → exec .encode s = .next t →
    (∀ i < t.regs.txfLen.toNat, bufByte u .rxbuf i = bufByte t .txfrm i) →
    u.regs.rxLen.toNat = t.regs.txfLen.toNat → u.regs.status.cadence ≠ .awaitAck →
    ∃ v, exec .classify u = .next v ∧ v.regs.rxStatus.kind = .success ∧
      v.regs.rxHdr.len.toNat = s.regs.txLen.toNat ∧ v.regs.rxTrl.payLen.toNat = s.regs.txLen.toNat ∧
      (∀ i < s.regs.txLen.toNat, bufByte v .rxbuf (8 + i) = bufByte s .txpay i) ∧
      v.regs.rxHdr.lcs = cs (le16 s.regs.txLen.toNat) ∧
      v.regs.rxTrl.dcs = cs (bufRange s .txpay 0 s.regs.txLen.toNat) ∧
      v.regs.rxStatus.hdrOk = true ∧ v.regs.rxStatus.lcsOk = true ∧ v.regs.rxStatus.dcsOk = true ∧
      v.regs.rxStatus.postOk = true ∧ v.regs.rxStatus.isShort = false ∧ v.regs.rxStatus.isLong = false

/-! ## Promises about every step -/

/-- Once set, SEQERR stays set in every step but a soft reset or a power-on reset (10_state.md R35, 60_exceptions.md R264). -/
def Obligations.SeqErrIsClearedOnlyByReset : Prop :=
  ∀ s t : State, step s = .next t → s.regs.status.seqErr = true →
    t.regs.status.seqErr = true ∨ (∃ rest, s.pending = .powerOnReset :: rest) ∨
      (∃ v rest, s.pending = .access (.write32 0x00000 v) :: rest ∧ v.toNat % 2 = 1)

/-- IDm, PMm and ID_VALID change in no step but a CAPTURE of a 37-byte response or a reset (10_state.md R51, R52). -/
def Obligations.IdentityChangesOnlyByCaptureOrReset : Prop :=
  ∀ s t : State, step s = .next t →
    (t.regs.idmLo = s.regs.idmLo ∧ t.regs.idmHi = s.regs.idmHi ∧ t.regs.pmmLo = s.regs.pmmLo ∧
      t.regs.pmmHi = s.regs.pmmHi ∧ t.regs.status.idValid = s.regs.status.idValid) ∨
    (∃ rest, s.pending = .access (.write32 0x00004 0x00000006) :: rest ∧ s.regs.rxLen.toNat = 37) ∨
    (∃ rest, s.pending = .powerOnReset :: rest) ∨
    (∃ v rest, s.pending = .access (.write32 0x00000 v) :: rest ∧ v.toNat % 2 = 1)

/-- R102: RXBUF and TXPAY change only by host writes, TXFRM only by ENCODE and ENCACK and only below the length they write;
a host write to TXFRM is refused and changes nothing. -/
def Obligations.BuffersChangeOnlyByTheirWriters : Prop :=
  ∀ s t : State, step s = .next t → (∀ rest, s.pending ≠ .powerOnReset :: rest) →
    (∀ i < 290, bufByte t .rxbuf i ≠ bufByte s .rxbuf i →
      ∃ a v rest, s.pending = .access (.write8 a v) :: rest ∧ a.toNat = 0x01000 + i) ∧
    (∀ i < 65535, bufByte t .txpay i ≠ bufByte s .txpay i →
      ∃ a v rest, s.pending = .access (.write8 a v) :: rest ∧ a.toNat = 0x20000 + i) ∧
    (∀ i < 65545, bufByte t .txfrm i ≠ bufByte s .txfrm i →
      ∃ w rest, s.pending = .access (.write32 0x00004 w) :: rest ∧ (w = 0x00000001 ∨ w = 0x00000002) ∧
        i < t.regs.txfLen.toNat) ∧
    (∀ a v rest, s.pending = .access (.write8 a v) :: rest → 0x40000 ≤ a.toNat → a.toNat ≤ 0x50008 →
      t = { s with pending := rest, observed := s.observed ++ [.refusedWrite] })

/-- A command depends on the registers and on its own input bytes alone (30_encoding.md R122): two states that agree on those
get the same registers and the same written bytes, whatever every other byte holds. So a command whose inputs the host has set
(70_reset_and_hazards.md R293) does the same under the draws of any other power-on; that an unwritten byte is a draw per
power-on and address is the model's choice of form (log 3). -/
def Obligations.FreeBytesDoNotReachCommandsWithInputsSet : Prop :=
  (∀ (i : Instr) (s s' : State), s'.regs = s.regs →
    (i = .encode → ∀ k < s.regs.txLen.toNat, bufByte s' .txpay k = bufByte s .txpay k) →
    (i = .classify → ∀ k < s.regs.rxLen.toNat, bufByte s' .rxbuf k = bufByte s .rxbuf k) →
    (i = .capture → s.regs.rxLen.toNat = 37 → ∀ k < 16, bufByte s' .rxbuf (17 + k) = bufByte s .rxbuf (17 + k)) →
    ((i = .csum ∨ i = .cschk) → ∀ (b : Buffer) (size : Nat),
      ((s.regs.csSrc = 0 ∧ b = .txpay ∧ size = 65535) ∨ (s.regs.csSrc = 1 ∧ b = .rxbuf ∧ size = 290) ∨
        (s.regs.csSrc = 2 ∧ b = .txfrm ∧ size = 65545)) →
      s.regs.csOff.toNat + s.regs.csLen.toNat ≤ size →
      ∀ k < s.regs.csLen.toNat,
        bufByte s' b (s.regs.csOff.toNat + k) = bufByte s b (s.regs.csOff.toNat + k)) →
    ∃ t t', exec i s = .next t ∧ exec i s' = .next t' ∧ t'.regs = t.regs ∧
      (∀ a, byteAt t' a = byteAt t a ∨ (byteAt t a = byteAt s a ∧ byteAt t' a = byteAt s' a)) ∧
      t = { s with regs := t.regs, mem := t.mem } ∧ t' = { s' with regs := t'.regs, mem := t'.mem }) ∧
  ∀ (i : Instr) (s : State) (k : Nat), inputsSet i s = true →
    ∃ t, exec i s = .next t ∧ exec i { s with powerOns := k } = .next { t with powerOns := k }

/-! ## Identity and timeouts -/

/-- CAPTURE of a 37-byte response loads IDm from RXBUF[17, 25) and PMm from RXBUF[25, 33), byte 0 in the lowest bits, sets
ID_VALID and CAPHIT, and changes nothing else but ERR (43_tag_timeout.md R222, 10_state.md R51, R52). -/
def Obligations.CaptureLoadsTheIdentity : Prop :=
  ∀ s : State, s.regs.rxLen.toNat = 37 →
    ∃ idmLo idmHi pmmLo pmmHi : Word,
      exec .capture s = .next { s with regs := { s.regs with
        idmLo := idmLo, idmHi := idmHi, pmmLo := pmmLo, pmmHi := pmmHi
        status := { s.regs.status with err := none, idValid := true, capHit := true } } } ∧
      (∀ i < 4,
        idmLo.toNat / 256 ^ i % 256 = (bufByte s .rxbuf (17 + i)).toNat ∧
        idmHi.toNat / 256 ^ i % 256 = (bufByte s .rxbuf (21 + i)).toNat ∧
        pmmLo.toNat / 256 ^ i % 256 = (bufByte s .rxbuf (25 + i)).toNat ∧
        pmmHi.toNat / 256 ^ i % 256 = (bufByte s .rxbuf (29 + i)).toNat)

/-- CAPTURE of any other length clears CAPHIT and keeps the identity (43_tag_timeout.md R222). -/
def Obligations.CaptureMissKeepsTheIdentity : Prop :=
  ∀ s : State, s.regs.rxLen.toNat ≠ 37 →
    exec .capture s = .next { s with regs := { s.regs with
      status := { s.regs.status with err := none, capHit := false } } }

/-- TIMEOUT.SYS with an identity: the result registers from PMm[3], N ignored, and nothing else but ERR 0
(43_tag_timeout.md R227). -/
def Obligations.TimeoutSysScalesPmmByteThree : Prop :=
  ∀ (s : State) (n : BitVec 8) (p tq ms : Nat), s.regs.status.idValid = true →
    p = s.regs.pmmLo.toNat / 2 ^ 24 → tq = max (3020 * (p % 8 + 1) * 4 ^ (p / 64)) 20000 → ms = tq / 10000 →
    ∃ t, exec (.timeoutSys n) s = .next t ∧
      t.regs.toTq.toNat = tq ∧ t.regs.toMs.ms.toNat = ms ∧ t.regs.toMs.lowClamp = false ∧
      t.regs.toTicks.ticks.toNat = (ms + 1) * 10 ∧ t.regs.toTicks.sat = false ∧
      t.regs.toCoef.a.toNat = p % 8 ∧ t.regs.toCoef.b.toNat = p / 8 % 8 ∧ t.regs.toCoef.e.toNat = p / 64 ∧
      t.regs.toCoef.pbyte.toNat = p ∧ t.regs.toCoef.pidx = 3 ∧ t.regs.toCoef.n = 0 ∧ t.regs.toCoef.kind = .sys ∧
      t = { s with regs := { s.regs with
        toCoef := t.regs.toCoef, toTq := t.regs.toTq, toMs := t.regs.toMs, toTicks := t.regs.toTicks
        status := { s.regs.status with err := none } } }

/-- TIMEOUT.SVC with an identity: the result registers from PMm[2] and the count, with the low clamp and the tick saturation,
and nothing else but ERR 0 (43_tag_timeout.md R225, R226, R228). -/
def Obligations.TimeoutSvcScalesPmmByteTwo : Prop :=
  ∀ (s : State) (n : BitVec 8) (p tq ms : Nat), s.regs.status.idValid = true →
    p = s.regs.pmmLo.toNat / 2 ^ 16 % 256 →
    tq = 3020 * ((p / 8 % 8 + 1) * n.toNat + p % 8 + 1) * 4 ^ (p / 64) → ms = max (tq / 10000) 1 →
    ∃ t, exec (.timeoutSvc n) s = .next t ∧
      t.regs.toTq.toNat = tq ∧ t.regs.toMs.ms.toNat = ms ∧ (t.regs.toMs.lowClamp = true ↔ tq < 10000) ∧
      t.regs.toTicks.ticks.toNat = min ((ms + 1) * 10) 0xFFFF ∧ (t.regs.toTicks.sat = true ↔ 6553 ≤ ms) ∧
      t.regs.toCoef.a.toNat = p % 8 ∧ t.regs.toCoef.b.toNat = p / 8 % 8 ∧ t.regs.toCoef.e.toNat = p / 64 ∧
      t.regs.toCoef.pbyte.toNat = p ∧ t.regs.toCoef.pidx = 2 ∧ t.regs.toCoef.n = n ∧ t.regs.toCoef.kind = .svc ∧
      t = { s with regs := { s.regs with
        toCoef := t.regs.toCoef, toTq := t.regs.toTq, toMs := t.regs.toMs, toTicks := t.regs.toTicks
        status := { s.regs.status with err := none } } }

/-- TIMEOUT.READ with an identity: the result registers from PMm[5] and the count, at the base time 3021, and nothing else
but ERR 0 (43_tag_timeout.md R225, R226, R229). -/
def Obligations.TimeoutReadScalesPmmByteFive : Prop :=
  ∀ (s : State) (n : BitVec 8) (p tq ms : Nat), s.regs.status.idValid = true →
    p = s.regs.pmmHi.toNat / 2 ^ 8 % 256 →
    tq = 3021 * ((p / 8 % 8 + 1) * n.toNat + p % 8 + 1) * 4 ^ (p / 64) → ms = max (tq / 10000) 1 →
    ∃ t, exec (.timeoutRead n) s = .next t ∧
      t.regs.toTq.toNat = tq ∧ t.regs.toMs.ms.toNat = ms ∧ (t.regs.toMs.lowClamp = true ↔ tq < 10000) ∧
      t.regs.toTicks.ticks.toNat = min ((ms + 1) * 10) 0xFFFF ∧ (t.regs.toTicks.sat = true ↔ 6553 ≤ ms) ∧
      t.regs.toCoef.a.toNat = p % 8 ∧ t.regs.toCoef.b.toNat = p / 8 % 8 ∧ t.regs.toCoef.e.toNat = p / 64 ∧
      t.regs.toCoef.pbyte.toNat = p ∧ t.regs.toCoef.pidx = 5 ∧ t.regs.toCoef.n = n ∧ t.regs.toCoef.kind = .read ∧
      t = { s with regs := { s.regs with
        toCoef := t.regs.toCoef, toTq := t.regs.toTq, toMs := t.regs.toMs, toTicks := t.regs.toTicks
        status := { s.regs.status with err := none } } }

/-- TIMEOUT.SENSE completes in every state with the fixed 10 ms: 100000 TU, 110 ticks, PIDX 0xF, and nothing else but ERR 0
(43_tag_timeout.md R230). -/
def Obligations.TimeoutSenseIsTenMilliseconds : Prop :=
  ∀ (s : State) (n : BitVec 8), exec (.timeoutSense n) s = .next { s with regs := { s.regs with
    toCoef := { a := 0, b := 0, e := 0, pbyte := 0, pidx := 0xF, n := 0, kind := .sense }
    toTq := 100000
    toMs := { ms := 10, lowClamp := false }
    toTicks := { ticks := 110, sat := false }
    status := { s.regs.status with err := none } } }

/-- Without an identity TIMEOUT.SYS, .SVC and .READ raise ERR_NOID and change nothing else (43_tag_timeout.md R227 to R229,
60_exceptions.md R261). -/
def Obligations.TimeoutsWithoutIdentityTrap : Prop :=
  ∀ (s : State) (i : Instr) (n : BitVec 8), (i = .timeoutSys n ∨ i = .timeoutSvc n ∨ i = .timeoutRead n) →
    s.regs.status.idValid = false →
    exec i s = .next { s with regs := { s.regs with status := { s.regs.status with err := some .noid } } }

/-- R127: N is accepted and ignored by TIMEOUT.SYS and TIMEOUT.SENSE, and TO_COEF.N is written 0 whenever they complete. -/
def Obligations.SysAndSenseIgnoreTheCount : Prop :=
  ∀ (n m : BitVec 8) (s : State),
    (∃ i, decode (BitVec.ofNat 32 (0x00000007 + n.toNat * 256)) = .ok i ∧ i = .timeoutSys n) ∧
    (∃ i, decode (BitVec.ofNat 32 (0x00030007 + n.toNat * 256)) = .ok i ∧ i = .timeoutSense n) ∧
    exec (.timeoutSys n) s = exec (.timeoutSys m) s ∧ exec (.timeoutSense n) s = exec (.timeoutSense m) s ∧
    (∀ t, exec (.timeoutSys n) s = .next t → t.regs.status.err = none → t.regs.toCoef.n = 0) ∧
    (∀ t, exec (.timeoutSense n) s = .next t → t.regs.status.err = none ∧ t.regs.toCoef.n = 0)

/-- The fixed-point timeout equals the source's formula in seconds exactly, as rationals (43_tag_timeout.md R223, R224). -/
def Obligations.TimeoutEqualsTheSourceFormula : Prop :=
  ∀ (p n : Byte) (a b e c : ℚ), a = (p.toNat % 8 : Nat) → b = (p.toNat / 8 % 8 : Nat) → c = (n.toNat : ℚ) →
    e = (4 : ℚ) ^ (p.toNat / 64) →
    (timeoutTq .sys p n : ℚ) / 10 ^ 7 = max (302 / 10 ^ 6 * (a + 1) * e) (2 / 1000) ∧
    (timeoutTq .svc p n : ℚ) / 10 ^ 7 = 302 / 10 ^ 6 * ((b + 1) * c + a + 1) * e ∧
    (timeoutTq .read p n : ℚ) / 10 ^ 7 = 3021 / 10 ^ 7 * ((b + 1) * c + a + 1) * e ∧
    (timeoutTq .sense p n : ℚ) / 10 ^ 7 = 10 / 1000

/-- R232: over every PMm byte and count, the units, the timeout, the milliseconds and the ticks stay in their ranges, so no
result register overflows and the upper clamp is never reached. -/
def Obligations.TimeoutsStayInRange : Prop :=
  ∀ (k : TimeoutKind) (p n : Byte),
    1 ≤ countUnits p n ∧ countUnits p n ≤ 2048 ∧
    3020 ≤ timeoutTq k p n ∧ timeoutTq k p n ≤ 395968512 ∧ timeoutTq k p n < 2 ^ 29 ∧
    timeoutMsRaw (timeoutTq k p n) ≤ 39596 ∧
    timeoutMs (timeoutTq k p n) = max (timeoutMsRaw (timeoutTq k p n)) 1 ∧
    20 ≤ timeoutTicks (timeoutMs (timeoutTq k p n)) ∧ timeoutTicks (timeoutMs (timeoutTq k p n)) ≤ 65535

/-! ## The assembler -/

/-- R131: each mnemonic is one write of its word to CMD, and the decoder reads its command from it; an assembler refuses a
TIMEOUT.SVC or TIMEOUT.READ line whose count is outside 0..255. -/
def Obligations.MnemonicsAssembleToTheirWords : Prop :=
  expandLine (.command .nop) = [.write32 0x00004 0x00000000] ∧
  expandLine (.command .encode) = [.write32 0x00004 0x00000001] ∧
  expandLine (.command .encack) = [.write32 0x00004 0x00000002] ∧
  expandLine (.command .classify) = [.write32 0x00004 0x00000003] ∧
  expandLine (.command .csum) = [.write32 0x00004 0x00000004] ∧
  expandLine (.command .cschk) = [.write32 0x00004 0x00000005] ∧
  expandLine (.command .capture) = [.write32 0x00004 0x00000006] ∧
  expandLine (.command .timeoutSys) = [.write32 0x00004 0x00000007] ∧
  expandLine (.command .timeoutSense) = [.write32 0x00004 0x00030007] ∧
  (∀ n ≤ 255,
    (∃ w : Word, expandLine (.command (.timeoutSvc n)) = [.write32 0x00004 w] ∧ w.toNat = 0x00010007 + n * 2 ^ 8) ∧
    (∃ w : Word, expandLine (.command (.timeoutRead n)) = [.write32 0x00004 w] ∧ w.toNat = 0x00020007 + n * 2 ^ 8)) ∧
  (∀ m : Mnemonic, m.wellFormed = true →
    ∃ w : Word, expandLine (.command m) = [.write32 0x00004 w] ∧ decode w = .ok (mnemonicInstr m)) ∧
  (∀ n : Nat, 255 < n → (HostLine.command (.timeoutSvc n)).wellFormed = false ∧
    (HostLine.command (.timeoutRead n)).wellFormed = false)

/-- A program assembles to the accesses of its lines in order when every line is well-formed, and not at all when one is not:
so one with a TIMEOUT.SVC or TIMEOUT.READ whose count is outside 0..255 does not assemble. That a whole program is refused for
one line is the model's choice (log 11); the order of the lines is 30_encoding.md R130, the refused counts R131. -/
def Obligations.ProgramsAssembleLineByLine : Prop :=
  (∀ ls : List HostLine, (∀ l ∈ ls, l.wellFormed = true) → assemble ls = some (ls.flatMap expandLine)) ∧
  (∀ ls : List HostLine, (∃ l ∈ ls, l.wellFormed = false) → assemble ls = none) ∧
  (∀ (n : Nat) (ls : List HostLine), 255 < n →
    (HostLine.command (.timeoutSvc n) ∈ ls ∨ HostLine.command (.timeoutRead n) ∈ ls) → assemble ls = none)

/-- R132: LOADTX and LOADRX write their bytes one by one from index 0 and then the length register; CSRANGE writes the three
range registers in order, with a buffer's name standing for its source code; SRST writes 1 to CTRL. -/
def Obligations.PseudoInstructionsExpand : Prop :=
  (∀ bs : List Nat,
    (expandLine (.loadTx bs)).length = bs.length + 1 ∧
    (∀ (i : Nat) (h : i < bs.length),
      (expandLine (.loadTx bs))[i]? = some (.write8 (BitVec.ofNat 20 (0x20000 + i)) (BitVec.ofNat 8 bs[i]))) ∧
    (expandLine (.loadTx bs))[bs.length]? = some (.write32 0x0000C (BitVec.ofNat 32 bs.length)) ∧
    (expandLine (.loadRx bs)).length = bs.length + 1 ∧
    (∀ (i : Nat) (h : i < bs.length),
      (expandLine (.loadRx bs))[i]? = some (.write8 (BitVec.ofNat 20 (0x01000 + i)) (BitVec.ofNat 8 bs[i]))) ∧
    (expandLine (.loadRx bs))[bs.length]? = some (.write32 0x00014 (BitVec.ofNat 32 bs.length)) ∧
    (290 < bs.length → (HostLine.loadRx bs).wellFormed = false)) ∧
  (∀ src off len : Nat, expandLine (.csRange (.number src) off len) =
    [.write32 0x00024 (BitVec.ofNat 32 src), .write32 0x00028 (BitVec.ofNat 32 off),
      .write32 0x0002C (BitVec.ofNat 32 len)]) ∧
  (∀ off len : Nat,
    expandLine (.csRange (.buffer .txpay) off len) = expandLine (.csRange (.number 0) off len) ∧
    expandLine (.csRange (.buffer .rxbuf) off len) = expandLine (.csRange (.number 1) off len) ∧
    expandLine (.csRange (.buffer .txfrm) off len) = expandLine (.csRange (.number 2) off len)) ∧
  expandLine .srst = [.write32 0x00000 1]
end

