-- ==== Sys2Proof/Laws/Memory.lean ====
section
/-! SUPPORT. The list of written bytes: read after write, and that every memory operation keeps the canonical
form and the buffer regions. -/

namespace Sys2Proof.Machine

@[simp] theorem memLookup_nil (a : Nat) : memLookup [] a = none := rfl

/-- Reading the written address gives the written byte. -/
@[simp] theorem memLookup_memWrite_self (m : Memory) (a : Nat) (v : Byte) :
    memLookup (memWrite m a v) a = some v := by
  induction m with
  | nil => simp [memWrite, memLookup]
  | cons c rest ih =>
    by_cases h1 : a < c.1
    · simp [memWrite, h1, memLookup]
    · by_cases h2 : a = c.1
      · simp [memWrite, h2, memLookup]
      · simp [memWrite, h1, h2, memLookup, ih, Ne.symm h2]

/-- A write leaves every other address alone. -/
theorem memLookup_memWrite_other (m : Memory) (a b : Nat) (v : Byte) (h : b ≠ a) :
    memLookup (memWrite m a v) b = memLookup m b := by
  induction m with
  | nil => simp [memWrite, memLookup, unwritten, Ne.symm h]
  | cons c rest ih =>
    by_cases h1 : a < c.1
    · simp [memWrite, h1, memLookup, Ne.symm h]
    · by_cases h2 : a = c.1
      · subst h2; simp [memWrite, memLookup, Ne.symm h]
      · simp [memWrite, h1, h2, memLookup, ih]

/-- Read after write. -/
theorem memLookup_memWrite (m : Memory) (a b : Nat) (v : Byte) :
    memLookup (memWrite m a v) b = if b = a then some v else memLookup m b := by
  by_cases h : b = a
  · simp [h]
  · simp [h, memLookup_memWrite_other]

/-- What an entry of a written list is: the new one, or an old one. -/
theorem mem_memWrite {m : Memory} {a : Nat} {v : Byte} {d : Host.Cell} (h : d ∈ memWrite m a v) :
    d = (a, v) ∨ d ∈ m := by
  induction m with
  | nil => simpa [memWrite] using h
  | cons c rest ih =>
    by_cases h1 : a < c.1
    · simpa [memWrite, h1] using h
    · by_cases h2 : a = c.1
      · subst h2
        simp [memWrite] at h
        exact h.imp_right (List.mem_cons_of_mem _)
      · simp [memWrite, h1, h2] at h
        rcases h with rfl | h
        · exact .inr (List.mem_cons_self ..)
        · exact (ih h).imp_right (List.mem_cons_of_mem _)

/-- A write keeps the canonical form. -/
theorem memWf_memWrite (m : Memory) (a : Nat) (v : Byte) (h : memWf m = true) :
    memWf (memWrite m a v) = true := by
  induction m with
  | nil => simp [memWrite, memWf]
  | cons c rest ih =>
    obtain ⟨hlt, hrest⟩ : (∀ d ∈ rest, c.1 < d.1) ∧ memWf rest = true := by
      simpa [memWf] using h
    by_cases h1 : a < c.1
    · have hall : ∀ d ∈ rest, a < d.1 := fun d hd => Nat.lt_trans h1 (hlt d hd)
      simpa [memWrite, memWf, hrest, h1] using ⟨fun x y h => hall (x, y) h, fun x y h => hlt (x, y) h⟩
    · by_cases h2 : a = c.1
      · subst h2
        simpa [memWrite, memWf, hrest] using hlt
      · simp only [memWrite, h1, h2, if_false, memWf, ih hrest, Bool.and_true, List.all_eq_true,
          decide_eq_true_eq]
        intro d hd
        rcases mem_memWrite hd with rfl | hd
        · exact Nat.lt_of_le_of_ne (Nat.le_of_not_lt h1) (Ne.symm h2)
        · exact hlt d hd

/-- Writing a sequence of bytes keeps the canonical form. -/
theorem memWf_memWriteAll (vs : List Byte) (m : Memory) (a : Nat) (h : memWf m = true) :
    memWf (memWriteAll m a vs) = true := by
  induction vs generalizing m a with
  | nil => exact h
  | cons v rest ih => exact ih _ _ (memWf_memWrite m a v h)

/-- Reading after a sequence was written at `a`: inside it its bytes, elsewhere what was there before. -/
theorem memLookup_memWriteAll (vs : List Byte) (m : Memory) (a b : Nat) :
    memLookup (memWriteAll m a vs) b =
      if h : a ≤ b ∧ b - a < vs.length then some vs[b - a] else memLookup m b := by
  induction vs generalizing m a with
  | nil => simp [memWriteAll]
  | cons v rest ih =>
    rw [memWriteAll, ih]
    by_cases hb : b = a
    · subst hb
      simp
    · by_cases hin : a + 1 ≤ b ∧ b - (a + 1) < rest.length
      · have h2 : a ≤ b ∧ b - a < (v :: rest).length := by simp; omega
        rw [dif_pos hin, dif_pos h2]
        have : b - a = (b - (a + 1)) + 1 := by omega
        simp [this]
      · have h2 : ¬ (a ≤ b ∧ b - a < (v :: rest).length) := by simp; omega
        rw [dif_neg hin, dif_neg h2, memLookup_memWrite_other _ _ _ _ hb]

/-- What an entry is after a sequence was written: an old one, or one of the addresses written. -/
theorem mem_memWriteAll {vs : List Byte} {m : Memory} {a : Nat} {d : Host.Cell}
    (h : d ∈ memWriteAll m a vs) : d ∈ m ∨ (a ≤ d.1 ∧ d.1 < a + vs.length) := by
  induction vs generalizing m a with
  | nil => exact .inl h
  | cons v rest ih =>
    rcases ih h with h | h
    · rcases mem_memWrite h with rfl | h
      · right; simp
      · exact .inl h
    · right; simp; omega

/-- A byte written to an address of a buffer region keeps the list inside the regions. -/
theorem memInBuffers_memWrite (m : Memory) (a : Nat) (v : Byte) (ha : (bufferAt a).isSome)
    (h : memInBuffers m = true) : memInBuffers (memWrite m a v) = true := by
  simp only [memInBuffers, List.all_eq_true] at h ⊢
  intro d hd
  rcases mem_memWrite hd with rfl | hd
  · exact ha
  · exact h d hd

/-- A sequence written inside a buffer region keeps the list inside the regions. -/
theorem memInBuffers_memWriteAll (vs : List Byte) (m : Memory) (a : Nat)
    (ha : ∀ b, a ≤ b → b < a + vs.length → (bufferAt b).isSome) (h : memInBuffers m = true) :
    memInBuffers (memWriteAll m a vs) = true := by
  simp only [memInBuffers, List.all_eq_true] at h ⊢
  intro d hd
  rcases mem_memWriteAll hd with hd | ⟨h1, h2⟩
  · exact h d hd
  · exact ha _ h1 h2

/-- The list of the state after reset has the canonical form. -/
theorem memWf_reset : memWf State.reset.mem = true := rfl

end Sys2Proof.Machine
end

