-- ==== Sys2Proof/Laws/State.lean ====
section
/-! SUPPORT. One lemma per field per update: what each named update writes, and that it leaves the rest. -/

namespace Sys2Proof.Machine

variable (s : State)

/-! ## setBufByte -/

@[simp] theorem setBufByte_regs (b : Buffer) (i : Nat) (v : Byte) : (setBufByte b i v s).regs = s.regs := rfl

@[simp] theorem setBufByte_mem (b : Buffer) (i : Nat) (v : Byte) : (setBufByte b i v s).mem = memWrite s.mem (bufAddr b i) v := rfl

@[simp] theorem setBufByte_powerOns (b : Buffer) (i : Nat) (v : Byte) : (setBufByte b i v s).powerOns = s.powerOns := rfl

@[simp] theorem setBufByte_pending (b : Buffer) (i : Nat) (v : Byte) : (setBufByte b i v s).pending = s.pending := rfl

@[simp] theorem setBufByte_observed (b : Buffer) (i : Nat) (v : Byte) : (setBufByte b i v s).observed = s.observed := rfl

/-! ## writeFrame -/

@[simp] theorem writeFrame_cmd (frame : List Byte) : (writeFrame frame s).regs.cmd = s.regs.cmd := rfl

@[simp] theorem writeFrame_status (frame : List Byte) : (writeFrame frame s).regs.status = s.regs.status := rfl

@[simp] theorem writeFrame_txLen (frame : List Byte) : (writeFrame frame s).regs.txLen = s.regs.txLen := rfl

@[simp] theorem writeFrame_txfLen (frame : List Byte) : (writeFrame frame s).regs.txfLen = BitVec.ofNat 17 frame.length := rfl

@[simp] theorem writeFrame_rxLen (frame : List Byte) : (writeFrame frame s).regs.rxLen = s.regs.rxLen := rfl

@[simp] theorem writeFrame_rxStatus (frame : List Byte) : (writeFrame frame s).regs.rxStatus = s.regs.rxStatus := rfl

@[simp] theorem writeFrame_rxHdr (frame : List Byte) : (writeFrame frame s).regs.rxHdr = s.regs.rxHdr := rfl

@[simp] theorem writeFrame_rxTrl (frame : List Byte) : (writeFrame frame s).regs.rxTrl = s.regs.rxTrl := rfl

@[simp] theorem writeFrame_csSrc (frame : List Byte) : (writeFrame frame s).regs.csSrc = s.regs.csSrc := rfl

@[simp] theorem writeFrame_csOff (frame : List Byte) : (writeFrame frame s).regs.csOff = s.regs.csOff := rfl

@[simp] theorem writeFrame_csLen (frame : List Byte) : (writeFrame frame s).regs.csLen = s.regs.csLen := rfl

@[simp] theorem writeFrame_csExpect (frame : List Byte) : (writeFrame frame s).regs.csExpect = s.regs.csExpect := rfl

@[simp] theorem writeFrame_csResult (frame : List Byte) : (writeFrame frame s).regs.csResult = s.regs.csResult := rfl

@[simp] theorem writeFrame_toCoef (frame : List Byte) : (writeFrame frame s).regs.toCoef = s.regs.toCoef := rfl

@[simp] theorem writeFrame_toTq (frame : List Byte) : (writeFrame frame s).regs.toTq = s.regs.toTq := rfl

@[simp] theorem writeFrame_toMs (frame : List Byte) : (writeFrame frame s).regs.toMs = s.regs.toMs := rfl

@[simp] theorem writeFrame_toTicks (frame : List Byte) : (writeFrame frame s).regs.toTicks = s.regs.toTicks := rfl

@[simp] theorem writeFrame_idmLo (frame : List Byte) : (writeFrame frame s).regs.idmLo = s.regs.idmLo := rfl

@[simp] theorem writeFrame_idmHi (frame : List Byte) : (writeFrame frame s).regs.idmHi = s.regs.idmHi := rfl

@[simp] theorem writeFrame_pmmLo (frame : List Byte) : (writeFrame frame s).regs.pmmLo = s.regs.pmmLo := rfl

@[simp] theorem writeFrame_pmmHi (frame : List Byte) : (writeFrame frame s).regs.pmmHi = s.regs.pmmHi := rfl

@[simp] theorem writeFrame_mem (frame : List Byte) : (writeFrame frame s).mem = memWriteAll s.mem (bufAddr .txfrm 0) frame := rfl

@[simp] theorem writeFrame_powerOns (frame : List Byte) : (writeFrame frame s).powerOns = s.powerOns := rfl

@[simp] theorem writeFrame_pending (frame : List Byte) : (writeFrame frame s).pending = s.pending := rfl

@[simp] theorem writeFrame_observed (frame : List Byte) : (writeFrame frame s).observed = s.observed := rfl

/-! ## enterCommand -/

@[simp] theorem enterCommand_cmd (w : Word) : (enterCommand w s).regs.cmd = w := rfl

@[simp] theorem enterCommand_status (w : Word) : (enterCommand w s).regs.status = { s.regs.status with lastOp := opField w } := rfl

@[simp] theorem enterCommand_txLen (w : Word) : (enterCommand w s).regs.txLen = s.regs.txLen := rfl

@[simp] theorem enterCommand_txfLen (w : Word) : (enterCommand w s).regs.txfLen = s.regs.txfLen := rfl

@[simp] theorem enterCommand_rxLen (w : Word) : (enterCommand w s).regs.rxLen = s.regs.rxLen := rfl

@[simp] theorem enterCommand_rxStatus (w : Word) : (enterCommand w s).regs.rxStatus = s.regs.rxStatus := rfl

@[simp] theorem enterCommand_rxHdr (w : Word) : (enterCommand w s).regs.rxHdr = s.regs.rxHdr := rfl

@[simp] theorem enterCommand_rxTrl (w : Word) : (enterCommand w s).regs.rxTrl = s.regs.rxTrl := rfl

@[simp] theorem enterCommand_csSrc (w : Word) : (enterCommand w s).regs.csSrc = s.regs.csSrc := rfl

@[simp] theorem enterCommand_csOff (w : Word) : (enterCommand w s).regs.csOff = s.regs.csOff := rfl

@[simp] theorem enterCommand_csLen (w : Word) : (enterCommand w s).regs.csLen = s.regs.csLen := rfl

@[simp] theorem enterCommand_csExpect (w : Word) : (enterCommand w s).regs.csExpect = s.regs.csExpect := rfl

@[simp] theorem enterCommand_csResult (w : Word) : (enterCommand w s).regs.csResult = s.regs.csResult := rfl

@[simp] theorem enterCommand_toCoef (w : Word) : (enterCommand w s).regs.toCoef = s.regs.toCoef := rfl

@[simp] theorem enterCommand_toTq (w : Word) : (enterCommand w s).regs.toTq = s.regs.toTq := rfl

@[simp] theorem enterCommand_toMs (w : Word) : (enterCommand w s).regs.toMs = s.regs.toMs := rfl

@[simp] theorem enterCommand_toTicks (w : Word) : (enterCommand w s).regs.toTicks = s.regs.toTicks := rfl

@[simp] theorem enterCommand_idmLo (w : Word) : (enterCommand w s).regs.idmLo = s.regs.idmLo := rfl

@[simp] theorem enterCommand_idmHi (w : Word) : (enterCommand w s).regs.idmHi = s.regs.idmHi := rfl

@[simp] theorem enterCommand_pmmLo (w : Word) : (enterCommand w s).regs.pmmLo = s.regs.pmmLo := rfl

@[simp] theorem enterCommand_pmmHi (w : Word) : (enterCommand w s).regs.pmmHi = s.regs.pmmHi := rfl

@[simp] theorem enterCommand_mem (w : Word) : (enterCommand w s).mem = s.mem := rfl

@[simp] theorem enterCommand_powerOns (w : Word) : (enterCommand w s).powerOns = s.powerOns := rfl

@[simp] theorem enterCommand_pending (w : Word) : (enterCommand w s).pending = s.pending := rfl

@[simp] theorem enterCommand_observed (w : Word) : (enterCommand w s).observed = s.observed := rfl

/-! ## setErr -/

@[simp] theorem setErr_cmd (e : Option CmdError) : (setErr e s).regs.cmd = s.regs.cmd := rfl

@[simp] theorem setErr_status (e : Option CmdError) : (setErr e s).regs.status = { s.regs.status with err := e } := rfl

@[simp] theorem setErr_txLen (e : Option CmdError) : (setErr e s).regs.txLen = s.regs.txLen := rfl

@[simp] theorem setErr_txfLen (e : Option CmdError) : (setErr e s).regs.txfLen = s.regs.txfLen := rfl

@[simp] theorem setErr_rxLen (e : Option CmdError) : (setErr e s).regs.rxLen = s.regs.rxLen := rfl

@[simp] theorem setErr_rxStatus (e : Option CmdError) : (setErr e s).regs.rxStatus = s.regs.rxStatus := rfl

@[simp] theorem setErr_rxHdr (e : Option CmdError) : (setErr e s).regs.rxHdr = s.regs.rxHdr := rfl

@[simp] theorem setErr_rxTrl (e : Option CmdError) : (setErr e s).regs.rxTrl = s.regs.rxTrl := rfl

@[simp] theorem setErr_csSrc (e : Option CmdError) : (setErr e s).regs.csSrc = s.regs.csSrc := rfl

@[simp] theorem setErr_csOff (e : Option CmdError) : (setErr e s).regs.csOff = s.regs.csOff := rfl

@[simp] theorem setErr_csLen (e : Option CmdError) : (setErr e s).regs.csLen = s.regs.csLen := rfl

@[simp] theorem setErr_csExpect (e : Option CmdError) : (setErr e s).regs.csExpect = s.regs.csExpect := rfl

@[simp] theorem setErr_csResult (e : Option CmdError) : (setErr e s).regs.csResult = s.regs.csResult := rfl

@[simp] theorem setErr_toCoef (e : Option CmdError) : (setErr e s).regs.toCoef = s.regs.toCoef := rfl

@[simp] theorem setErr_toTq (e : Option CmdError) : (setErr e s).regs.toTq = s.regs.toTq := rfl

@[simp] theorem setErr_toMs (e : Option CmdError) : (setErr e s).regs.toMs = s.regs.toMs := rfl

@[simp] theorem setErr_toTicks (e : Option CmdError) : (setErr e s).regs.toTicks = s.regs.toTicks := rfl

@[simp] theorem setErr_idmLo (e : Option CmdError) : (setErr e s).regs.idmLo = s.regs.idmLo := rfl

@[simp] theorem setErr_idmHi (e : Option CmdError) : (setErr e s).regs.idmHi = s.regs.idmHi := rfl

@[simp] theorem setErr_pmmLo (e : Option CmdError) : (setErr e s).regs.pmmLo = s.regs.pmmLo := rfl

@[simp] theorem setErr_pmmHi (e : Option CmdError) : (setErr e s).regs.pmmHi = s.regs.pmmHi := rfl

@[simp] theorem setErr_mem (e : Option CmdError) : (setErr e s).mem = s.mem := rfl

@[simp] theorem setErr_powerOns (e : Option CmdError) : (setErr e s).powerOns = s.powerOns := rfl

@[simp] theorem setErr_pending (e : Option CmdError) : (setErr e s).pending = s.pending := rfl

@[simp] theorem setErr_observed (e : Option CmdError) : (setErr e s).observed = s.observed := rfl

/-! ## setCadence -/

@[simp] theorem setCadence_cmd (c : Cadence) : (setCadence c s).regs.cmd = s.regs.cmd := rfl

@[simp] theorem setCadence_status (c : Cadence) : (setCadence c s).regs.status = { s.regs.status with cadence := c } := rfl

@[simp] theorem setCadence_txLen (c : Cadence) : (setCadence c s).regs.txLen = s.regs.txLen := rfl

@[simp] theorem setCadence_txfLen (c : Cadence) : (setCadence c s).regs.txfLen = s.regs.txfLen := rfl

@[simp] theorem setCadence_rxLen (c : Cadence) : (setCadence c s).regs.rxLen = s.regs.rxLen := rfl

@[simp] theorem setCadence_rxStatus (c : Cadence) : (setCadence c s).regs.rxStatus = s.regs.rxStatus := rfl

@[simp] theorem setCadence_rxHdr (c : Cadence) : (setCadence c s).regs.rxHdr = s.regs.rxHdr := rfl

@[simp] theorem setCadence_rxTrl (c : Cadence) : (setCadence c s).regs.rxTrl = s.regs.rxTrl := rfl

@[simp] theorem setCadence_csSrc (c : Cadence) : (setCadence c s).regs.csSrc = s.regs.csSrc := rfl

@[simp] theorem setCadence_csOff (c : Cadence) : (setCadence c s).regs.csOff = s.regs.csOff := rfl

@[simp] theorem setCadence_csLen (c : Cadence) : (setCadence c s).regs.csLen = s.regs.csLen := rfl

@[simp] theorem setCadence_csExpect (c : Cadence) : (setCadence c s).regs.csExpect = s.regs.csExpect := rfl

@[simp] theorem setCadence_csResult (c : Cadence) : (setCadence c s).regs.csResult = s.regs.csResult := rfl

@[simp] theorem setCadence_toCoef (c : Cadence) : (setCadence c s).regs.toCoef = s.regs.toCoef := rfl

@[simp] theorem setCadence_toTq (c : Cadence) : (setCadence c s).regs.toTq = s.regs.toTq := rfl

@[simp] theorem setCadence_toMs (c : Cadence) : (setCadence c s).regs.toMs = s.regs.toMs := rfl

@[simp] theorem setCadence_toTicks (c : Cadence) : (setCadence c s).regs.toTicks = s.regs.toTicks := rfl

@[simp] theorem setCadence_idmLo (c : Cadence) : (setCadence c s).regs.idmLo = s.regs.idmLo := rfl

@[simp] theorem setCadence_idmHi (c : Cadence) : (setCadence c s).regs.idmHi = s.regs.idmHi := rfl

@[simp] theorem setCadence_pmmLo (c : Cadence) : (setCadence c s).regs.pmmLo = s.regs.pmmLo := rfl

@[simp] theorem setCadence_pmmHi (c : Cadence) : (setCadence c s).regs.pmmHi = s.regs.pmmHi := rfl

@[simp] theorem setCadence_mem (c : Cadence) : (setCadence c s).mem = s.mem := rfl

@[simp] theorem setCadence_powerOns (c : Cadence) : (setCadence c s).powerOns = s.powerOns := rfl

@[simp] theorem setCadence_pending (c : Cadence) : (setCadence c s).pending = s.pending := rfl

@[simp] theorem setCadence_observed (c : Cadence) : (setCadence c s).observed = s.observed := rfl

/-! ## markSequence -/

@[simp] theorem markSequence_cmd : (markSequence s).regs.cmd = s.regs.cmd := rfl

@[simp] theorem markSequence_status : (markSequence s).regs.status = { s.regs.status with seqErr := s.regs.status.seqErr || s.regs.status.cadence != .idle } := rfl

@[simp] theorem markSequence_txLen : (markSequence s).regs.txLen = s.regs.txLen := rfl

@[simp] theorem markSequence_txfLen : (markSequence s).regs.txfLen = s.regs.txfLen := rfl

@[simp] theorem markSequence_rxLen : (markSequence s).regs.rxLen = s.regs.rxLen := rfl

@[simp] theorem markSequence_rxStatus : (markSequence s).regs.rxStatus = s.regs.rxStatus := rfl

@[simp] theorem markSequence_rxHdr : (markSequence s).regs.rxHdr = s.regs.rxHdr := rfl

@[simp] theorem markSequence_rxTrl : (markSequence s).regs.rxTrl = s.regs.rxTrl := rfl

@[simp] theorem markSequence_csSrc : (markSequence s).regs.csSrc = s.regs.csSrc := rfl

@[simp] theorem markSequence_csOff : (markSequence s).regs.csOff = s.regs.csOff := rfl

@[simp] theorem markSequence_csLen : (markSequence s).regs.csLen = s.regs.csLen := rfl

@[simp] theorem markSequence_csExpect : (markSequence s).regs.csExpect = s.regs.csExpect := rfl

@[simp] theorem markSequence_csResult : (markSequence s).regs.csResult = s.regs.csResult := rfl

@[simp] theorem markSequence_toCoef : (markSequence s).regs.toCoef = s.regs.toCoef := rfl

@[simp] theorem markSequence_toTq : (markSequence s).regs.toTq = s.regs.toTq := rfl

@[simp] theorem markSequence_toMs : (markSequence s).regs.toMs = s.regs.toMs := rfl

@[simp] theorem markSequence_toTicks : (markSequence s).regs.toTicks = s.regs.toTicks := rfl

@[simp] theorem markSequence_idmLo : (markSequence s).regs.idmLo = s.regs.idmLo := rfl

@[simp] theorem markSequence_idmHi : (markSequence s).regs.idmHi = s.regs.idmHi := rfl

@[simp] theorem markSequence_pmmLo : (markSequence s).regs.pmmLo = s.regs.pmmLo := rfl

@[simp] theorem markSequence_pmmHi : (markSequence s).regs.pmmHi = s.regs.pmmHi := rfl

@[simp] theorem markSequence_mem : (markSequence s).mem = s.mem := rfl

@[simp] theorem markSequence_powerOns : (markSequence s).powerOns = s.powerOns := rfl

@[simp] theorem markSequence_pending : (markSequence s).pending = s.pending := rfl

@[simp] theorem markSequence_observed : (markSequence s).observed = s.observed := rfl

/-! ## setCsResult -/

@[simp] theorem setCsResult_cmd (r : CsResult) : (setCsResult r s).regs.cmd = s.regs.cmd := rfl

@[simp] theorem setCsResult_status (r : CsResult) : (setCsResult r s).regs.status = s.regs.status := rfl

@[simp] theorem setCsResult_txLen (r : CsResult) : (setCsResult r s).regs.txLen = s.regs.txLen := rfl

@[simp] theorem setCsResult_txfLen (r : CsResult) : (setCsResult r s).regs.txfLen = s.regs.txfLen := rfl

@[simp] theorem setCsResult_rxLen (r : CsResult) : (setCsResult r s).regs.rxLen = s.regs.rxLen := rfl

@[simp] theorem setCsResult_rxStatus (r : CsResult) : (setCsResult r s).regs.rxStatus = s.regs.rxStatus := rfl

@[simp] theorem setCsResult_rxHdr (r : CsResult) : (setCsResult r s).regs.rxHdr = s.regs.rxHdr := rfl

@[simp] theorem setCsResult_rxTrl (r : CsResult) : (setCsResult r s).regs.rxTrl = s.regs.rxTrl := rfl

@[simp] theorem setCsResult_csSrc (r : CsResult) : (setCsResult r s).regs.csSrc = s.regs.csSrc := rfl

@[simp] theorem setCsResult_csOff (r : CsResult) : (setCsResult r s).regs.csOff = s.regs.csOff := rfl

@[simp] theorem setCsResult_csLen (r : CsResult) : (setCsResult r s).regs.csLen = s.regs.csLen := rfl

@[simp] theorem setCsResult_csExpect (r : CsResult) : (setCsResult r s).regs.csExpect = s.regs.csExpect := rfl

@[simp] theorem setCsResult_csResult (r : CsResult) : (setCsResult r s).regs.csResult = r := rfl

@[simp] theorem setCsResult_toCoef (r : CsResult) : (setCsResult r s).regs.toCoef = s.regs.toCoef := rfl

@[simp] theorem setCsResult_toTq (r : CsResult) : (setCsResult r s).regs.toTq = s.regs.toTq := rfl

@[simp] theorem setCsResult_toMs (r : CsResult) : (setCsResult r s).regs.toMs = s.regs.toMs := rfl

@[simp] theorem setCsResult_toTicks (r : CsResult) : (setCsResult r s).regs.toTicks = s.regs.toTicks := rfl

@[simp] theorem setCsResult_idmLo (r : CsResult) : (setCsResult r s).regs.idmLo = s.regs.idmLo := rfl

@[simp] theorem setCsResult_idmHi (r : CsResult) : (setCsResult r s).regs.idmHi = s.regs.idmHi := rfl

@[simp] theorem setCsResult_pmmLo (r : CsResult) : (setCsResult r s).regs.pmmLo = s.regs.pmmLo := rfl

@[simp] theorem setCsResult_pmmHi (r : CsResult) : (setCsResult r s).regs.pmmHi = s.regs.pmmHi := rfl

@[simp] theorem setCsResult_mem (r : CsResult) : (setCsResult r s).mem = s.mem := rfl

@[simp] theorem setCsResult_powerOns (r : CsResult) : (setCsResult r s).powerOns = s.powerOns := rfl

@[simp] theorem setCsResult_pending (r : CsResult) : (setCsResult r s).pending = s.pending := rfl

@[simp] theorem setCsResult_observed (r : CsResult) : (setCsResult r s).observed = s.observed := rfl

/-! ## setRxResult -/

@[simp] theorem setRxResult_cmd (st : RxStatus) (hdr : RxHdr) (trl : RxTrl) : (setRxResult st hdr trl s).regs.cmd = s.regs.cmd := rfl

@[simp] theorem setRxResult_status (st : RxStatus) (hdr : RxHdr) (trl : RxTrl) : (setRxResult st hdr trl s).regs.status = s.regs.status := rfl

@[simp] theorem setRxResult_txLen (st : RxStatus) (hdr : RxHdr) (trl : RxTrl) : (setRxResult st hdr trl s).regs.txLen = s.regs.txLen := rfl

@[simp] theorem setRxResult_txfLen (st : RxStatus) (hdr : RxHdr) (trl : RxTrl) : (setRxResult st hdr trl s).regs.txfLen = s.regs.txfLen := rfl

@[simp] theorem setRxResult_rxLen (st : RxStatus) (hdr : RxHdr) (trl : RxTrl) : (setRxResult st hdr trl s).regs.rxLen = s.regs.rxLen := rfl

@[simp] theorem setRxResult_rxStatus (st : RxStatus) (hdr : RxHdr) (trl : RxTrl) : (setRxResult st hdr trl s).regs.rxStatus = st := rfl

@[simp] theorem setRxResult_rxHdr (st : RxStatus) (hdr : RxHdr) (trl : RxTrl) : (setRxResult st hdr trl s).regs.rxHdr = hdr := rfl

@[simp] theorem setRxResult_rxTrl (st : RxStatus) (hdr : RxHdr) (trl : RxTrl) : (setRxResult st hdr trl s).regs.rxTrl = trl := rfl

@[simp] theorem setRxResult_csSrc (st : RxStatus) (hdr : RxHdr) (trl : RxTrl) : (setRxResult st hdr trl s).regs.csSrc = s.regs.csSrc := rfl

@[simp] theorem setRxResult_csOff (st : RxStatus) (hdr : RxHdr) (trl : RxTrl) : (setRxResult st hdr trl s).regs.csOff = s.regs.csOff := rfl

@[simp] theorem setRxResult_csLen (st : RxStatus) (hdr : RxHdr) (trl : RxTrl) : (setRxResult st hdr trl s).regs.csLen = s.regs.csLen := rfl

@[simp] theorem setRxResult_csExpect (st : RxStatus) (hdr : RxHdr) (trl : RxTrl) : (setRxResult st hdr trl s).regs.csExpect = s.regs.csExpect := rfl

@[simp] theorem setRxResult_csResult (st : RxStatus) (hdr : RxHdr) (trl : RxTrl) : (setRxResult st hdr trl s).regs.csResult = s.regs.csResult := rfl

@[simp] theorem setRxResult_toCoef (st : RxStatus) (hdr : RxHdr) (trl : RxTrl) : (setRxResult st hdr trl s).regs.toCoef = s.regs.toCoef := rfl

@[simp] theorem setRxResult_toTq (st : RxStatus) (hdr : RxHdr) (trl : RxTrl) : (setRxResult st hdr trl s).regs.toTq = s.regs.toTq := rfl

@[simp] theorem setRxResult_toMs (st : RxStatus) (hdr : RxHdr) (trl : RxTrl) : (setRxResult st hdr trl s).regs.toMs = s.regs.toMs := rfl

@[simp] theorem setRxResult_toTicks (st : RxStatus) (hdr : RxHdr) (trl : RxTrl) : (setRxResult st hdr trl s).regs.toTicks = s.regs.toTicks := rfl

@[simp] theorem setRxResult_idmLo (st : RxStatus) (hdr : RxHdr) (trl : RxTrl) : (setRxResult st hdr trl s).regs.idmLo = s.regs.idmLo := rfl

@[simp] theorem setRxResult_idmHi (st : RxStatus) (hdr : RxHdr) (trl : RxTrl) : (setRxResult st hdr trl s).regs.idmHi = s.regs.idmHi := rfl

@[simp] theorem setRxResult_pmmLo (st : RxStatus) (hdr : RxHdr) (trl : RxTrl) : (setRxResult st hdr trl s).regs.pmmLo = s.regs.pmmLo := rfl

@[simp] theorem setRxResult_pmmHi (st : RxStatus) (hdr : RxHdr) (trl : RxTrl) : (setRxResult st hdr trl s).regs.pmmHi = s.regs.pmmHi := rfl

@[simp] theorem setRxResult_mem (st : RxStatus) (hdr : RxHdr) (trl : RxTrl) : (setRxResult st hdr trl s).mem = s.mem := rfl

@[simp] theorem setRxResult_powerOns (st : RxStatus) (hdr : RxHdr) (trl : RxTrl) : (setRxResult st hdr trl s).powerOns = s.powerOns := rfl

@[simp] theorem setRxResult_pending (st : RxStatus) (hdr : RxHdr) (trl : RxTrl) : (setRxResult st hdr trl s).pending = s.pending := rfl

@[simp] theorem setRxResult_observed (st : RxStatus) (hdr : RxHdr) (trl : RxTrl) : (setRxResult st hdr trl s).observed = s.observed := rfl

/-! ## setTimeout -/

@[simp] theorem setTimeout_cmd (coef : ToCoef) (tq : BitVec 29) (ms : ToMs) (ticks : ToTicks) : (setTimeout coef tq ms ticks s).regs.cmd = s.regs.cmd := rfl

@[simp] theorem setTimeout_status (coef : ToCoef) (tq : BitVec 29) (ms : ToMs) (ticks : ToTicks) : (setTimeout coef tq ms ticks s).regs.status = s.regs.status := rfl

@[simp] theorem setTimeout_txLen (coef : ToCoef) (tq : BitVec 29) (ms : ToMs) (ticks : ToTicks) : (setTimeout coef tq ms ticks s).regs.txLen = s.regs.txLen := rfl

@[simp] theorem setTimeout_txfLen (coef : ToCoef) (tq : BitVec 29) (ms : ToMs) (ticks : ToTicks) : (setTimeout coef tq ms ticks s).regs.txfLen = s.regs.txfLen := rfl

@[simp] theorem setTimeout_rxLen (coef : ToCoef) (tq : BitVec 29) (ms : ToMs) (ticks : ToTicks) : (setTimeout coef tq ms ticks s).regs.rxLen = s.regs.rxLen := rfl

@[simp] theorem setTimeout_rxStatus (coef : ToCoef) (tq : BitVec 29) (ms : ToMs) (ticks : ToTicks) : (setTimeout coef tq ms ticks s).regs.rxStatus = s.regs.rxStatus := rfl

@[simp] theorem setTimeout_rxHdr (coef : ToCoef) (tq : BitVec 29) (ms : ToMs) (ticks : ToTicks) : (setTimeout coef tq ms ticks s).regs.rxHdr = s.regs.rxHdr := rfl

@[simp] theorem setTimeout_rxTrl (coef : ToCoef) (tq : BitVec 29) (ms : ToMs) (ticks : ToTicks) : (setTimeout coef tq ms ticks s).regs.rxTrl = s.regs.rxTrl := rfl

@[simp] theorem setTimeout_csSrc (coef : ToCoef) (tq : BitVec 29) (ms : ToMs) (ticks : ToTicks) : (setTimeout coef tq ms ticks s).regs.csSrc = s.regs.csSrc := rfl

@[simp] theorem setTimeout_csOff (coef : ToCoef) (tq : BitVec 29) (ms : ToMs) (ticks : ToTicks) : (setTimeout coef tq ms ticks s).regs.csOff = s.regs.csOff := rfl

@[simp] theorem setTimeout_csLen (coef : ToCoef) (tq : BitVec 29) (ms : ToMs) (ticks : ToTicks) : (setTimeout coef tq ms ticks s).regs.csLen = s.regs.csLen := rfl

@[simp] theorem setTimeout_csExpect (coef : ToCoef) (tq : BitVec 29) (ms : ToMs) (ticks : ToTicks) : (setTimeout coef tq ms ticks s).regs.csExpect = s.regs.csExpect := rfl

@[simp] theorem setTimeout_csResult (coef : ToCoef) (tq : BitVec 29) (ms : ToMs) (ticks : ToTicks) : (setTimeout coef tq ms ticks s).regs.csResult = s.regs.csResult := rfl

@[simp] theorem setTimeout_toCoef (coef : ToCoef) (tq : BitVec 29) (ms : ToMs) (ticks : ToTicks) : (setTimeout coef tq ms ticks s).regs.toCoef = coef := rfl

@[simp] theorem setTimeout_toTq (coef : ToCoef) (tq : BitVec 29) (ms : ToMs) (ticks : ToTicks) : (setTimeout coef tq ms ticks s).regs.toTq = tq := rfl

@[simp] theorem setTimeout_toMs (coef : ToCoef) (tq : BitVec 29) (ms : ToMs) (ticks : ToTicks) : (setTimeout coef tq ms ticks s).regs.toMs = ms := rfl

@[simp] theorem setTimeout_toTicks (coef : ToCoef) (tq : BitVec 29) (ms : ToMs) (ticks : ToTicks) : (setTimeout coef tq ms ticks s).regs.toTicks = ticks := rfl

@[simp] theorem setTimeout_idmLo (coef : ToCoef) (tq : BitVec 29) (ms : ToMs) (ticks : ToTicks) : (setTimeout coef tq ms ticks s).regs.idmLo = s.regs.idmLo := rfl

@[simp] theorem setTimeout_idmHi (coef : ToCoef) (tq : BitVec 29) (ms : ToMs) (ticks : ToTicks) : (setTimeout coef tq ms ticks s).regs.idmHi = s.regs.idmHi := rfl

@[simp] theorem setTimeout_pmmLo (coef : ToCoef) (tq : BitVec 29) (ms : ToMs) (ticks : ToTicks) : (setTimeout coef tq ms ticks s).regs.pmmLo = s.regs.pmmLo := rfl

@[simp] theorem setTimeout_pmmHi (coef : ToCoef) (tq : BitVec 29) (ms : ToMs) (ticks : ToTicks) : (setTimeout coef tq ms ticks s).regs.pmmHi = s.regs.pmmHi := rfl

@[simp] theorem setTimeout_mem (coef : ToCoef) (tq : BitVec 29) (ms : ToMs) (ticks : ToTicks) : (setTimeout coef tq ms ticks s).mem = s.mem := rfl

@[simp] theorem setTimeout_powerOns (coef : ToCoef) (tq : BitVec 29) (ms : ToMs) (ticks : ToTicks) : (setTimeout coef tq ms ticks s).powerOns = s.powerOns := rfl

@[simp] theorem setTimeout_pending (coef : ToCoef) (tq : BitVec 29) (ms : ToMs) (ticks : ToTicks) : (setTimeout coef tq ms ticks s).pending = s.pending := rfl

@[simp] theorem setTimeout_observed (coef : ToCoef) (tq : BitVec 29) (ms : ToMs) (ticks : ToTicks) : (setTimeout coef tq ms ticks s).observed = s.observed := rfl

/-! ## setIdentity -/

@[simp] theorem setIdentity_cmd (il ih pl ph : Word) : (setIdentity il ih pl ph s).regs.cmd = s.regs.cmd := rfl

@[simp] theorem setIdentity_status (il ih pl ph : Word) : (setIdentity il ih pl ph s).regs.status = { s.regs.status with idValid := true } := rfl

@[simp] theorem setIdentity_txLen (il ih pl ph : Word) : (setIdentity il ih pl ph s).regs.txLen = s.regs.txLen := rfl

@[simp] theorem setIdentity_txfLen (il ih pl ph : Word) : (setIdentity il ih pl ph s).regs.txfLen = s.regs.txfLen := rfl

@[simp] theorem setIdentity_rxLen (il ih pl ph : Word) : (setIdentity il ih pl ph s).regs.rxLen = s.regs.rxLen := rfl

@[simp] theorem setIdentity_rxStatus (il ih pl ph : Word) : (setIdentity il ih pl ph s).regs.rxStatus = s.regs.rxStatus := rfl

@[simp] theorem setIdentity_rxHdr (il ih pl ph : Word) : (setIdentity il ih pl ph s).regs.rxHdr = s.regs.rxHdr := rfl

@[simp] theorem setIdentity_rxTrl (il ih pl ph : Word) : (setIdentity il ih pl ph s).regs.rxTrl = s.regs.rxTrl := rfl

@[simp] theorem setIdentity_csSrc (il ih pl ph : Word) : (setIdentity il ih pl ph s).regs.csSrc = s.regs.csSrc := rfl

@[simp] theorem setIdentity_csOff (il ih pl ph : Word) : (setIdentity il ih pl ph s).regs.csOff = s.regs.csOff := rfl

@[simp] theorem setIdentity_csLen (il ih pl ph : Word) : (setIdentity il ih pl ph s).regs.csLen = s.regs.csLen := rfl

@[simp] theorem setIdentity_csExpect (il ih pl ph : Word) : (setIdentity il ih pl ph s).regs.csExpect = s.regs.csExpect := rfl

@[simp] theorem setIdentity_csResult (il ih pl ph : Word) : (setIdentity il ih pl ph s).regs.csResult = s.regs.csResult := rfl

@[simp] theorem setIdentity_toCoef (il ih pl ph : Word) : (setIdentity il ih pl ph s).regs.toCoef = s.regs.toCoef := rfl

@[simp] theorem setIdentity_toTq (il ih pl ph : Word) : (setIdentity il ih pl ph s).regs.toTq = s.regs.toTq := rfl

@[simp] theorem setIdentity_toMs (il ih pl ph : Word) : (setIdentity il ih pl ph s).regs.toMs = s.regs.toMs := rfl

@[simp] theorem setIdentity_toTicks (il ih pl ph : Word) : (setIdentity il ih pl ph s).regs.toTicks = s.regs.toTicks := rfl

@[simp] theorem setIdentity_idmLo (il ih pl ph : Word) : (setIdentity il ih pl ph s).regs.idmLo = il := rfl

@[simp] theorem setIdentity_idmHi (il ih pl ph : Word) : (setIdentity il ih pl ph s).regs.idmHi = ih := rfl

@[simp] theorem setIdentity_pmmLo (il ih pl ph : Word) : (setIdentity il ih pl ph s).regs.pmmLo = pl := rfl

@[simp] theorem setIdentity_pmmHi (il ih pl ph : Word) : (setIdentity il ih pl ph s).regs.pmmHi = ph := rfl

@[simp] theorem setIdentity_mem (il ih pl ph : Word) : (setIdentity il ih pl ph s).mem = s.mem := rfl

@[simp] theorem setIdentity_powerOns (il ih pl ph : Word) : (setIdentity il ih pl ph s).powerOns = s.powerOns := rfl

@[simp] theorem setIdentity_pending (il ih pl ph : Word) : (setIdentity il ih pl ph s).pending = s.pending := rfl

@[simp] theorem setIdentity_observed (il ih pl ph : Word) : (setIdentity il ih pl ph s).observed = s.observed := rfl

/-! ## setCapHit -/

@[simp] theorem setCapHit_cmd (h : Bool) : (setCapHit h s).regs.cmd = s.regs.cmd := rfl

@[simp] theorem setCapHit_status (h : Bool) : (setCapHit h s).regs.status = { s.regs.status with capHit := h } := rfl

@[simp] theorem setCapHit_txLen (h : Bool) : (setCapHit h s).regs.txLen = s.regs.txLen := rfl

@[simp] theorem setCapHit_txfLen (h : Bool) : (setCapHit h s).regs.txfLen = s.regs.txfLen := rfl

@[simp] theorem setCapHit_rxLen (h : Bool) : (setCapHit h s).regs.rxLen = s.regs.rxLen := rfl

@[simp] theorem setCapHit_rxStatus (h : Bool) : (setCapHit h s).regs.rxStatus = s.regs.rxStatus := rfl

@[simp] theorem setCapHit_rxHdr (h : Bool) : (setCapHit h s).regs.rxHdr = s.regs.rxHdr := rfl

@[simp] theorem setCapHit_rxTrl (h : Bool) : (setCapHit h s).regs.rxTrl = s.regs.rxTrl := rfl

@[simp] theorem setCapHit_csSrc (h : Bool) : (setCapHit h s).regs.csSrc = s.regs.csSrc := rfl

@[simp] theorem setCapHit_csOff (h : Bool) : (setCapHit h s).regs.csOff = s.regs.csOff := rfl

@[simp] theorem setCapHit_csLen (h : Bool) : (setCapHit h s).regs.csLen = s.regs.csLen := rfl

@[simp] theorem setCapHit_csExpect (h : Bool) : (setCapHit h s).regs.csExpect = s.regs.csExpect := rfl

@[simp] theorem setCapHit_csResult (h : Bool) : (setCapHit h s).regs.csResult = s.regs.csResult := rfl

@[simp] theorem setCapHit_toCoef (h : Bool) : (setCapHit h s).regs.toCoef = s.regs.toCoef := rfl

@[simp] theorem setCapHit_toTq (h : Bool) : (setCapHit h s).regs.toTq = s.regs.toTq := rfl

@[simp] theorem setCapHit_toMs (h : Bool) : (setCapHit h s).regs.toMs = s.regs.toMs := rfl

@[simp] theorem setCapHit_toTicks (h : Bool) : (setCapHit h s).regs.toTicks = s.regs.toTicks := rfl

@[simp] theorem setCapHit_idmLo (h : Bool) : (setCapHit h s).regs.idmLo = s.regs.idmLo := rfl

@[simp] theorem setCapHit_idmHi (h : Bool) : (setCapHit h s).regs.idmHi = s.regs.idmHi := rfl

@[simp] theorem setCapHit_pmmLo (h : Bool) : (setCapHit h s).regs.pmmLo = s.regs.pmmLo := rfl

@[simp] theorem setCapHit_pmmHi (h : Bool) : (setCapHit h s).regs.pmmHi = s.regs.pmmHi := rfl

@[simp] theorem setCapHit_mem (h : Bool) : (setCapHit h s).mem = s.mem := rfl

@[simp] theorem setCapHit_powerOns (h : Bool) : (setCapHit h s).powerOns = s.powerOns := rfl

@[simp] theorem setCapHit_pending (h : Bool) : (setCapHit h s).pending = s.pending := rfl

@[simp] theorem setCapHit_observed (h : Bool) : (setCapHit h s).observed = s.observed := rfl

/-! ## softReset -/

@[simp] theorem softReset_regs : (softReset s).regs = Regs.reset := rfl

@[simp] theorem softReset_mem : (softReset s).mem = s.mem := rfl

@[simp] theorem softReset_powerOns : (softReset s).powerOns = s.powerOns := rfl

@[simp] theorem softReset_pending : (softReset s).pending = s.pending := rfl

@[simp] theorem softReset_observed : (softReset s).observed = s.observed := rfl

/-! ## powerOn -/

@[simp] theorem powerOn_regs : (powerOn s).regs = Regs.reset := rfl

@[simp] theorem powerOn_mem : (powerOn s).mem = [] := rfl

@[simp] theorem powerOn_powerOns : (powerOn s).powerOns = s.powerOns + 1 := rfl

@[simp] theorem powerOn_pending : (powerOn s).pending = s.pending := rfl

@[simp] theorem powerOn_observed : (powerOn s).observed = [] := rfl

/-! ## observe -/

@[simp] theorem observe_regs (r : BusResponse) : (observe r s).regs = s.regs := rfl

@[simp] theorem observe_mem (r : BusResponse) : (observe r s).mem = s.mem := rfl

@[simp] theorem observe_powerOns (r : BusResponse) : (observe r s).powerOns = s.powerOns := rfl

@[simp] theorem observe_pending (r : BusResponse) : (observe r s).pending = s.pending := rfl

@[simp] theorem observe_observed (r : BusResponse) : (observe r s).observed = s.observed ++ [r] := rfl

/-! ## dropEvent -/

@[simp] theorem dropEvent_regs (rest : List HostEvent) : (dropEvent rest s).regs = s.regs := rfl

@[simp] theorem dropEvent_mem (rest : List HostEvent) : (dropEvent rest s).mem = s.mem := rfl

@[simp] theorem dropEvent_powerOns (rest : List HostEvent) : (dropEvent rest s).powerOns = s.powerOns := rfl

@[simp] theorem dropEvent_pending (rest : List HostEvent) : (dropEvent rest s).pending = rest := rfl

@[simp] theorem dropEvent_observed (rest : List HostEvent) : (dropEvent rest s).observed = s.observed := rfl

end Sys2Proof.Machine
end

