-- ==== Sys2Proof/Laws/Buffers.lean ====
section
/-! SUPPORT. Reading a byte after each operation, and the bytes of a buffer range. -/

namespace Sys2Proof.Machine

/-- A byte depends on the list of written bytes and on the power-on count alone. -/
theorem byteAt_congr {s t : State} (hm : t.mem = s.mem) (hp : t.powerOns = s.powerOns) (a : Nat) :
    byteAt t a = byteAt s a := by
  simp [byteAt, hm, hp]

/-- Reading after `setBufByte`. -/
theorem byteAt_setBufByte (b : Buffer) (i : Nat) (v : Byte) (s : State) (a : Nat) :
    byteAt (setBufByte b i v s) a = if a = bufAddr b i then v else byteAt s a := by
  by_cases h : a = bufAddr b i
  · simp [byteAt, h]
  · simp [byteAt, h, memLookup_memWrite_other]

/-- Reading after `writeFrame`: the frame at the start of TXFRM, everything else as before. -/
theorem byteAt_writeFrame (frame : List Byte) (s : State) (a : Nat) :
    byteAt (writeFrame frame s) a =
      if h : 0x40000 ≤ a ∧ a - 0x40000 < frame.length then frame[a - 0x40000] else byteAt s a := by
  simp only [byteAt, writeFrame_mem, writeFrame_powerOns, memLookup_memWriteAll, bufAddr, bufBase]
  by_cases h : 0x40000 ≤ a ∧ a - 0x40000 < frame.length
  · simp [h]
  · simp [h]

@[simp] theorem bufRange_length (s : State) (b : Buffer) (off len : Nat) :
    (bufRange s b off len).length = len := by
  simp [bufRange]

/-- A byte of a buffer range. -/
@[simp] theorem bufRange_getElem (s : State) (b : Buffer) (off len i : Nat) (h : i < (bufRange s b off len).length) :
    (bufRange s b off len)[i] = bufByte s b (off + i) := by
  simp [bufRange]

/-- A byte of a buffer range, with the default beyond it. -/
theorem bufRange_getD (s : State) (b : Buffer) (off len i : Nat) (d : Byte) :
    (bufRange s b off len).getD i d = if i < len then bufByte s b (off + i) else d := by
  by_cases h : i < len <;> simp [bufRange, h]

/-- A range is read alike from states with the same written bytes and power-on count. -/
theorem bufRange_congr {s t : State} (hm : t.mem = s.mem) (hp : t.powerOns = s.powerOns) (b : Buffer)
    (off len : Nat) : bufRange t b off len = bufRange s b off len := by
  simp only [bufRange, bufByte, byteAt_congr hm hp]

/-- Membership in a buffer region as inequalities. -/
theorem inRegion_iff (b : Buffer) (a : Nat) :
    inRegion b a = true ↔ bufBase b ≤ a ∧ a < bufBase b + bufSize b := by
  simp [inRegion]

/-- The bounds of the regions. -/
theorem region_bounds :
    bufBase .rxbuf = 4096 ∧ bufSize .rxbuf = 290 ∧ bufBase .txpay = 131072 ∧ bufSize .txpay = 65535 ∧
      bufBase .txfrm = 262144 ∧ bufSize .txfrm = 65545 := by decide

/-- The three regions do not meet: a buffer index that fits names its own region. -/
theorem bufferAt_bufAddr (b : Buffer) (i : Nat) (h : i < bufSize b) : bufferAt (bufAddr b i) = some (b, i) := by
  obtain ⟨h1, h2, h3, h4, h5, h6⟩ := region_bounds
  cases b <;>
  · simp only [bufferAt, inRegion_iff, bufAddr, h1, h2, h3, h4, h5, h6] at h ⊢
    repeat' split
    all_goals first | omega | simp

/-- What an address in a buffer region names. -/
theorem bufferAt_eq_some {a : Nat} {b : Buffer} {i : Nat} (h : bufferAt a = some (b, i)) :
    a = bufAddr b i ∧ i < bufSize b := by
  simp only [bufferAt, inRegion_iff] at h
  repeat' split at h
  all_goals first | (cases h; simp only [bufAddr]; omega) | cases h

end Sys2Proof.Machine
end

