-- ==== Sys2Proof/Laws/Bytes.lean ====
section
/-! SUPPORT. Byte sequences: sums, checksums and slices as numbers. -/

namespace Sys2Proof.Machine

@[simp] theorem byteSum_nil : byteSum [] = 0 := rfl

@[simp] theorem byteSum_cons (b : Byte) (s : List Byte) : byteSum (b :: s) = b.toNat + byteSum s := rfl

@[simp] theorem byteSum_append (s t : List Byte) : byteSum (s ++ t) = byteSum s + byteSum t := by
  simp [byteSum]

/-- `sum8` as a number. -/
theorem sum8_toNat (s : List Byte) : (sum8 s).toNat = byteSum s % 256 := by
  simp [sum8]

/-- `cs` as a number, without the subtraction below zero. -/
theorem cs_toNat (s : List Byte) : (cs s).toNat = (256 - byteSum s % 256) % 256 := by
  rw [cs, BitVec.toNat_ofNat]
  omega

/-- When a byte validates against a sequence. -/
theorem validates_iff (s : List Byte) (c : Byte) : validates s c = true ↔ (byteSum s + c.toNat) % 256 = 0 := by
  simp only [validates, sum8_toNat, beq_iff_eq]
  omega

@[simp] theorem le16_length (v : Nat) : (le16 v).length = 2 := rfl

/-- A slice that lies inside its sequence has its length. -/
theorem slice_length (s : List Byte) (i j : Nat) (h : j ≤ s.length) : (slice s i j).length = j - i := by
  simp [slice]; omega

/-- A byte of a slice. -/
theorem slice_getElem? (s : List Byte) (i j k : Nat) (h : k < j - i) : (slice s i j)[k]? = s[i + k]? := by
  simp [slice, h]

/-- The bytes of a packed register word. -/
theorem wordByte_packWord (b0 b1 b2 b3 : Byte) :
    wordByte (packWord b0 b1 b2 b3) 0 = b0 ∧ wordByte (packWord b0 b1 b2 b3) 1 = b1 ∧
      wordByte (packWord b0 b1 b2 b3) 2 = b2 ∧ wordByte (packWord b0 b1 b2 b3) 3 = b3 := by
  refine ⟨?_, ?_, ?_, ?_⟩ <;>
  · ext i hi
    simp only [wordByte, packWord, BitVec.getElem_extractLsb', BitVec.getLsbD_or, BitVec.getLsbD_shiftLeft,
      BitVec.getLsbD_setWidth]
    interval_cases i <;> simp [BitVec.getLsbD_of_ge, BitVec.getLsbD_eq_getElem]

end Sys2Proof.Machine
end

