-- ==== Sys2Proof/Laws/Decode.lean ====
section
/-! SUPPORT. The fields of a command word, as bits and as numbers (30_encoding.md R121). -/

namespace Sys2Proof

/-- The fields of a word put together from them. -/
theorem fields_commandWord (op n : BitVec 8) (k : BitVec 4) :
    opField (commandWord op n k) = op ∧ nField (commandWord op n k) = n ∧ kField (commandWord op n k) = k ∧
      rsvField (commandWord op n k) = 0 := by
  refine ⟨?_, ?_, ?_, ?_⟩ <;>
  · ext i hi
    simp only [opField, nField, kField, rsvField, commandWord, BitVec.getElem_extractLsb', BitVec.getLsbD_or,
      BitVec.getLsbD_shiftLeft, BitVec.getLsbD_setWidth]
    interval_cases i <;> simp [BitVec.getLsbD_of_ge, BitVec.getLsbD_eq_getElem]

/-- The fields of a word as numbers. -/
theorem fields_toNat (w : Word) :
    (opField w).toNat = w.toNat % 256 ∧ (nField w).toNat = w.toNat / 256 % 256 ∧
      (kField w).toNat = w.toNat / 65536 % 16 ∧ (rsvField w).toNat = w.toNat / 1048576 ∧
      (highField w).toNat = w.toNat / 256 := by
  have := w.isLt
  simp only [opField, nField, kField, rsvField, highField, BitVec.extractLsb'_toNat, Nat.shiftRight_eq_div_pow]
  norm_num
  omega

/-- The bits above the opcode are clear exactly when the word is below 256. -/
theorem highField_eq_zero (w : Word) : highField w = 0 ↔ w.toNat / 256 = 0 := by
  rw [← (fields_toNat w).2.2.2.2, ← BitVec.toNat_inj]; rfl

/-- The reserved field is clear exactly when the word is below 2^20. -/
theorem rsvField_eq_zero (w : Word) : rsvField w = 0 ↔ w.toNat / 1048576 = 0 := by
  rw [← (fields_toNat w).2.2.2.1, ← BitVec.toNat_inj]; rfl

/-- A word put together from its fields, as a number. -/
theorem commandWord_toNat (op n : BitVec 8) (k : BitVec 4) :
    (commandWord op n k).toNat = op.toNat + 256 * n.toNat + 65536 * k.toNat := by
  obtain ⟨h1, h2, h3, h4⟩ := fields_commandWord op n k
  obtain ⟨e1, e2, e3, e4, -⟩ := fields_toNat (commandWord op n k)
  rw [h1] at e1; rw [h2] at e2; rw [h3] at e3; rw [h4] at e4
  simp only [BitVec.ofNat_eq_ofNat, BitVec.toNat_ofNat] at e4
  omega

end Sys2Proof
end

