-- ==== Sys2Proof/Laws/Exec.lean ====
section
/-! SUPPORT. What each shared operation of the meanings, of the envelope and of the bus can do, said once. -/

namespace Sys2Proof.Machine

/-- Raising an error writes STATUS.ERR and goes on. -/
theorem raiseCmdError_next (e : CmdError) (s : State) : raiseCmdError e s = .next (setErr (some e) s) := rfl

/-- Completing a command clears STATUS.ERR and goes on. -/
theorem completeCommand_next (s : State) : completeCommand s = .next (setErr none s) := rfl

/-- The legal checksum ranges (41_checksum.md R163). -/
theorem checksumRange_eq_some {s : State} {bytes : List Byte} (h : checksumRange s = some bytes) :
    ∃ b, checksumSource s.regs.csSrc = some b ∧
      s.regs.csOff.toNat + s.regs.csLen.toNat ≤ bufSize b ∧
      bytes = bufRange s b s.regs.csOff.toNat s.regs.csLen.toNat := by
  unfold checksumRange at h
  split at h
  · next b hb =>
    split at h
    · next hle => exact ⟨b, hb, hle, by simpa using h.symm⟩
    · cases h
  · cases h

/-- What a checksum command can do: report a range error, or write CS_RESULT. -/
theorem checksumCommand_cases {ok : List Byte → Bool} {s t : State} (h : checksumCommand ok s = .next t) :
    (checksumRange s = none ∧ t = setErr (some .range) s) ∨
    (∃ bytes, checksumRange s = some bytes ∧
      t = setErr none (setCsResult { cs := cs bytes, sum := sum8 bytes, valid := ok bytes } s)) := by
  unfold checksumCommand at h
  split at h
  · next hr => cases h; exact .inl ⟨hr, rfl⟩
  · next bytes hr => cases h; exact .inr ⟨bytes, hr, rfl⟩

/-- What an identity timeout can do: report a missing identity, or write the TO_* results. -/
theorem identityTimeout_cases {k : TimeoutKind} {idx : Nat} {n : Byte} {s t : State}
    (h : identityTimeout k idx n s = .next t) :
    (s.regs.status.idValid = false ∧ t = setErr (some .noid) s) ∨
    (s.regs.status.idValid = true ∧
      t = setErr none (writeTimeout k (pmmByte s idx) (BitVec.ofNat 4 idx) n (timeoutTq k (pmmByte s idx) n) s)) := by
  unfold identityTimeout at h
  split at h
  · next hv => cases h; exact .inr ⟨hv, rfl⟩
  · next hv => cases h; exact .inl ⟨by simpa using hv, rfl⟩

/-- What CAPTURE can do: load the identity, or record a miss. -/
theorem execCapture_cases {s t : State} (h : execCapture s = .next t) :
    (s.regs.rxLen.toNat = 37 ∧
      t = setErr none (setCapHit true (setIdentity (packRxbuf s 17) (packRxbuf s 21) (packRxbuf s 25)
        (packRxbuf s 29) s))) ∨
    (s.regs.rxLen.toNat ≠ 37 ∧ t = setErr none (setCapHit false s)) := by
  unfold execCapture at h
  split at h
  · next hv => cases h; exact .inl ⟨hv, rfl⟩
  · next hv => cases h; exact .inr ⟨hv, rfl⟩

@[simp] theorem mapNext_next (f : State → State) (t : State) : mapNext f (.next t) = .next (f t) := rfl

/-- A next state of `mapNext` comes from a next state. -/
theorem mapNext_eq_next {f : State → State} {o : Host.Outcome State Fault Refusal} {t : State}
    (h : mapNext f o = .next t) : ∃ u, o = .next u ∧ t = f u := by
  cases o with
  | next u => exact ⟨u, rfl, by simpa using h.symm⟩
  | fault r => cases h
  | refused r => cases h

/-- What running a command word can do: the decoder's error, or the decoded command. -/
theorem runCommand_cases {w : Word} {s t : State} (h : runCommand w s = .next t) :
    (∃ e, decode w = .err e ∧ t = setErr (some e) (enterCommand w s)) ∨
    (∃ i, decode w = .ok i ∧ exec i (enterCommand w s) = .next t) := by
  unfold runCommand at h
  split at h
  · next e he => cases h; exact .inl ⟨e, he, rfl⟩
  · next i hi => exact .inr ⟨i, hi, h⟩

/-- What writing a word to a register can do. -/
theorem writeReg_cases {r : Reg} {v : Word} {s t : State} (h : writeReg r v s = .next t) :
    (r = .cmd ∧ runCommand v s = .next t) ∨
    (r = .ctrl ∧ t = if v.getLsbD 0 then softReset s else s) ∨
    (r ≠ .cmd ∧ r ≠ .ctrl ∧ t = storeReg r v s) := by
  cases r with
  | cmd => exact .inl ⟨rfl, h⟩
  | ctrl => exact .inr (.inl ⟨rfl, by simpa [writeReg] using h.symm⟩)
  | _ => exact .inr (.inr ⟨by simp, by simp, by simpa [writeReg] using h.symm⟩)

/-- What a 4-byte write can do. -/
theorem write32_cases {a : Addr} {v : Word} {s t : State} (h : write32 a v s = .next t) :
    (∃ r u, wordTarget a = .register r ∧ writeReg r v s = .next u ∧ t = observe .accepted u) ∨
    (wordTarget a = .reserved ∧ t = observe .accepted s) ∨
    (wordTarget a = .refused ∧ t = observe .refusedWrite s) := by
  unfold write32 at h
  split at h
  · next r hr =>
    obtain ⟨u, hu, rfl⟩ := mapNext_eq_next h
    exact .inl ⟨r, u, hr, hu, rfl⟩
  · next hr => cases h; exact .inr (.inl ⟨hr, rfl⟩)
  · next hr => cases h; exact .inr (.inr ⟨hr, rfl⟩)

/-- What a 1-byte write can do. -/
theorem write8_cases (a : Addr) (v : Byte) (s : State) :
    (∃ b i, bufferAt a.toNat = some (b, i) ∧ hostWritable b = true ∧
      write8 a v s = observe .accepted (setBufByte b i v s)) ∨
    write8 a v s = observe .refusedWrite s := by
  unfold write8 byteTarget
  split
  · next b i hb =>
    split
    · next hw => exact .inl ⟨b, i, hb, hw, rfl⟩
    · exact .inr rfl
  · exact .inr rfl

/-- What a step can do: wait, run one access, or take a reset pulse. -/
theorem step_cases {s t : State} (h : step s = .next t) :
    (s.pending = [] ∧ t = s) ∨
    (∃ rest a, s.pending = .access a :: rest ∧ hostAccess a (dropEvent rest s) = .next t) ∨
    (∃ rest, s.pending = .powerOnReset :: rest ∧ t = powerOn (dropEvent rest s)) := by
  unfold step at h
  split at h
  · next hp => cases h; exact .inl ⟨hp, rfl⟩
  · next e rest hp =>
    cases e with
    | access a => exact .inr (.inl ⟨rest, a, hp, h⟩)
    | powerOnReset => cases h; exact .inr (.inr ⟨rest, hp, rfl⟩)

/-- The frame of a payload is ten bytes longer than it (00_scope.md R19). -/
@[simp] theorem commandFrame_length (m : Marker) (p : List Byte) : (commandFrame m p).length = p.length + 10 := by
  simp [commandFrame, Config.preamble]; omega

@[simp] theorem payloadOperand_length (s : State) : (payloadOperand s).length = s.regs.txLen.toNat := by
  simp [payloadOperand]

@[simp] theorem receivedFrame_length (s : State) : (receivedFrame s).length = s.regs.rxLen.toNat := by
  simp [receivedFrame]

/-- `ext(i)` of the received frame (42_frame_codec.md R185). -/
theorem extByte_receivedFrame (s : State) (i : Nat) :
    extByte (receivedFrame s) i = if i < s.regs.rxLen.toNat then bufByte s .rxbuf i else 0 := by
  rw [extByte, receivedFrame, bufRange_getD, Nat.zero_add]

/-- The declared length fits 16 bits. -/
theorem declaredLen_lt (raw : List Byte) : declaredLen raw < 65536 := by
  have h5 := (extByte raw 5).isLt
  have h6 := (extByte raw 6).isLt
  simp only [declaredLen]; omega

end Sys2Proof.Machine
end

