-- ==== Sys2Proof/Laws/Fields.lean ====
section
/-! SUPPORT. Fields placed in a register word, as numbers (10_state.md). -/

namespace Sys2Proof.Machine

/-- A placed field as a number. -/
theorem placeField_toNat {k : Nat} (v : BitVec k) (lo : Nat) (h : lo + k ≤ 32) :
    (placeField v lo).toNat = 2 ^ lo * v.toNat := by
  have hv : v.toNat * 2 ^ lo < 2 ^ 32 :=
    calc v.toNat * 2 ^ lo < 2 ^ k * 2 ^ lo := Nat.mul_lt_mul_of_pos_right v.isLt (Nat.two_pow_pos lo)
      _ = 2 ^ (lo + k) := by rw [← Nat.pow_add, Nat.add_comm]
      _ ≤ 2 ^ 32 := Nat.pow_le_pow_right (by decide) h
  have hk : v.toNat % 2 ^ 32 = v.toNat :=
    Nat.mod_eq_of_lt (Nat.lt_of_lt_of_le v.isLt (Nat.pow_le_pow_right (by decide) (by omega)))
  rw [placeField, BitVec.toNat_shiftLeft, BitVec.toNat_setWidth, hk, Nat.shiftLeft_eq, Nat.mod_eq_of_lt hv,
    Nat.mul_comm]

/-- A field placed above every bit of a word adds to it. -/
theorem or_placeField_toNat {k : Nat} (w : Word) (v : BitVec k) (lo : Nat) (hw : w.toNat < 2 ^ lo)
    (h : lo + k ≤ 32) : (w ||| placeField v lo).toNat = w.toNat + 2 ^ lo * v.toNat := by
  rw [BitVec.toNat_or, placeField_toNat v lo h, Nat.or_comm, ← Nat.two_pow_add_eq_or_of_lt hw, Nat.add_comm]

/-- A flag placed above every bit of a word adds to it. -/
theorem or_placeFlag_toNat (w : Word) (f : Bool) (lo : Nat) (hw : w.toNat < 2 ^ lo) (h : lo < 32) :
    (w ||| placeFlag f lo).toNat = w.toNat + 2 ^ lo * f.toNat := by
  rw [placeFlag, or_placeField_toNat w _ lo hw (by omega), BitVec.toNat_ofBool]

end Sys2Proof.Machine
end

