-- ==== Sys2Proof/Laws/Frame.lean ====
section
/-! SUPPORT. The bytes of a Command Frame and of a received frame, one by one (42_frame_codec.md R180, R185). -/

namespace Sys2Proof.Machine

/-- The frame as its eight leading bytes, the payload and the two trailing bytes. -/
theorem commandFrame_eq (m : Marker) (p : List Byte) :
    commandFrame m p =
      [0x00, 0x00, 0xFF, m.1, m.2, BitVec.ofNat 8 p.length, BitVec.ofNat 8 (p.length / 256), cs (le16 p.length)]
        ++ (p ++ [cs p, 0x00]) := by
  simp [commandFrame, Config.preamble, Config.postamble, le16]

/-- A payload byte of the frame. -/
theorem commandFrame_payload (m : Marker) (p : List Byte) (i : Nat) (h : i < p.length) :
    (commandFrame m p)[8 + i]? = some p[i] := by
  rw [commandFrame_eq, List.getElem?_append_right (by simp)]
  simp only [List.length_cons, List.length_nil, Nat.zero_add, Nat.reduceAdd, Nat.add_sub_cancel_left]
  rw [List.getElem?_append_left h, List.getElem?_eq_getElem h]

/-- The payload checksum of the frame. -/
theorem commandFrame_dcs (m : Marker) (p : List Byte) : (commandFrame m p)[8 + p.length]? = some (cs p) := by
  rw [commandFrame_eq, List.getElem?_append_right (by simp)]
  simp

/-- The postamble of the frame. -/
theorem commandFrame_post (m : Marker) (p : List Byte) : (commandFrame m p)[9 + p.length]? = some 0x00 := by
  rw [commandFrame_eq, List.getElem?_append_right (by simp; omega)]
  simp only [List.length_cons, List.length_nil, Nat.zero_add, Nat.reduceAdd]
  rw [show 9 + p.length - 8 = p.length + 1 by omega, List.getElem?_append_right (by omega)]
  simp

/-- After `writeFrame` the byte of TXFRM at an index of the frame is the frame's. -/
theorem bufByte_writeFrame (frame : List Byte) (s : State) (i : Nat) (v : Byte) (h : frame[i]? = some v) :
    bufByte (writeFrame frame s) .txfrm i = v := by
  obtain ⟨hi, hv⟩ := List.getElem?_eq_some_iff.mp h
  rw [bufByte, byteAt_writeFrame, dif_pos (by simp [bufAddr, bufBase, hi])]
  simpa [bufAddr, bufBase] using hv

/-- The two length bytes and their checksum sum to 0 modulo 256 (41_checksum.md R162). -/
theorem cs_le16 (n : Nat) :
    ((BitVec.ofNat 8 n).toNat + (BitVec.ofNat 8 (n / 256)).toNat + (cs (le16 n)).toNat) % 256 = 0 := by
  rw [cs_toNat, le16]
  simp only [byteSum_cons, byteSum_nil]
  omega

/-- The declared length of a received frame is below 65536, so RX_HDR.LEN holds it. -/
theorem parseHdr_len (raw : List Byte) : (parseHdr raw).len.toNat = declaredLen raw := by
  simp only [parseHdr, BitVec.toNat_ofNat]
  exact Nat.mod_eq_of_lt (declaredLen_lt raw)

/-- The payload extent of a received frame below 512 bytes fits RX_TRL.PAY_LEN. -/
theorem parseTrl_payLen (raw : List Byte) (h : raw.length < 512) :
    (parseTrl raw).payLen.toNat = min (declaredLen raw) (raw.length - 8) := by
  simp only [parseTrl, BitVec.toNat_ofNat]
  omega

/-- A slice of a range is a range. -/
theorem slice_bufRange (s : State) (b : Buffer) (off len i j : Nat) (h : j ≤ len) :
    slice (bufRange s b off len) i j = bufRange s b (off + i) (j - i) := by
  apply List.ext_getElem
  · rw [slice_length _ _ _ (by simpa using h), bufRange_length]
  · intro k h1 h2
    simp only [slice, List.getElem_take, List.getElem_drop, bufRange_getElem, Nat.add_assoc]

/-- The byte sum of a range. -/
theorem byteSum_bufRange (s : State) (b : Buffer) (off len : Nat) :
    byteSum (bufRange s b off len) = ∑ i ∈ Finset.range len, (bufByte s b (off + i)).toNat := by
  rw [Finset.sum_range, ← List.sum_ofFn, byteSum, bufRange, List.map_map]
  congr 1
  apply List.ext_getElem <;> simp

end Sys2Proof.Machine
end

