-- ==== Sys2Proof/Laws/PerInstr.lean ====
section
/-! SUPPORT. Facts stated instruction by instruction: each instruction's word belongs to its own row of the
opcode map (30_encoding.md R123). -/

namespace Sys2Proof.Laws.TableRow

/-- The word of `i` is selected by the row of the opcode map with `i`'s mnemonic. -/
def Statement (i : Instr) : Prop :=
  ∃ r ∈ opcodeTable, r.mnemonic = i.mnemonic ∧ r.selects (encode i) = true

/-- A TIMEOUT word is selected by its row whatever its N, since N is not in the mask (R123). -/
theorem timeout_masked (n : BitVec 8) (k : BitVec 4) :
    commandWord 0x07 n k &&& 0xFFFF00FF = commandWord 0x07 0 k := by
  revert n k; decide

theorem nop : Statement .nop := ⟨⟨"NOP", 0x00000000, 0xFFFFFFFF⟩, by decide, rfl, by decide⟩

theorem encode : Statement .encode := ⟨⟨"ENCODE", 0x00000001, 0xFFFFFFFF⟩, by decide, rfl, by decide⟩

theorem encack : Statement .encack := ⟨⟨"ENCACK", 0x00000002, 0xFFFFFFFF⟩, by decide, rfl, by decide⟩

theorem classify : Statement .classify := ⟨⟨"CLASSIFY", 0x00000003, 0xFFFFFFFF⟩, by decide, rfl, by decide⟩

theorem csum : Statement .csum := ⟨⟨"CSUM", 0x00000004, 0xFFFFFFFF⟩, by decide, rfl, by decide⟩

theorem cschk : Statement .cschk := ⟨⟨"CSCHK", 0x00000005, 0xFFFFFFFF⟩, by decide, rfl, by decide⟩

theorem capture : Statement .capture := ⟨⟨"CAPTURE", 0x00000006, 0xFFFFFFFF⟩, by decide, rfl, by decide⟩

theorem timeoutSys (n : BitVec 8) : Statement (.timeoutSys n) :=
  ⟨⟨"TIMEOUT.SYS", 0x00000007, 0xFFFF00FF⟩, by decide, rfl, beq_iff_eq.mpr (timeout_masked n 0)⟩

theorem timeoutSvc (n : BitVec 8) : Statement (.timeoutSvc n) :=
  ⟨⟨"TIMEOUT.SVC", 0x00010007, 0xFFFF00FF⟩, by decide, rfl, beq_iff_eq.mpr (timeout_masked n 1)⟩

theorem timeoutRead (n : BitVec 8) : Statement (.timeoutRead n) :=
  ⟨⟨"TIMEOUT.READ", 0x00020007, 0xFFFF00FF⟩, by decide, rfl, beq_iff_eq.mpr (timeout_masked n 2)⟩

theorem timeoutSense (n : BitVec 8) : Statement (.timeoutSense n) :=
  ⟨⟨"TIMEOUT.SENSE", 0x00030007, 0xFFFF00FF⟩, by decide, rfl, beq_iff_eq.mpr (timeout_masked n 3)⟩

end Sys2Proof.Laws.TableRow
end

