-- ==== Sys2Proof/Laws/Timeout.lean ====
section
/-! SUPPORT. The timeout calculator as numbers (43_tag_timeout.md R221, R224 to R226), and register packing. -/

namespace Sys2Proof.Machine

/-- The fields of a PMm byte as numbers. -/
theorem coefs_toNat (p : Byte) :
    (coefA p).toNat = p.toNat % 8 ∧ (coefB p).toNat = p.toNat / 8 % 8 ∧ (coefE p).toNat = p.toNat / 64 := by
  have := p.isLt
  simp only [coefA, coefB, coefE, BitVec.extractLsb'_toNat, Nat.shiftRight_eq_div_pow]
  norm_num
  omega

theorem lowClamp_iff (msRaw : Nat) : lowClamp msRaw = true ↔ msRaw = 0 := by simp [lowClamp]

theorem tickSat_iff (ticksRaw : Nat) : tickSat ticksRaw = true ↔ 65535 < ticksRaw := by
  rw [tickSat, decide_eq_true_iff, Config.ticksMax]

theorem timeoutMs_eq (tq : Nat) : timeoutMs tq = min (max (tq / 10000) 1) 65535 := by
  simp [timeoutMs, timeoutMsRaw, Config.msLo, Config.msHi]

theorem timeoutTicks_eq (ms : Nat) : timeoutTicks ms = min ((ms + 1) * 10) 65535 := by
  simp [timeoutTicks, timeoutTicksRaw, Config.ticksMax]

/-- What `writeTimeout` leaves in the result registers, for a timeout its 29 bits hold. -/
theorem writeTimeout_numbers (k : TimeoutKind) (p : Byte) (idx : BitVec 4) (n : Byte) (tq : Nat) (s : State)
    (h : tq < 2 ^ 29) :
    (writeTimeout k p idx n tq s).regs.toTq.toNat = tq ∧
    (writeTimeout k p idx n tq s).regs.toMs.ms.toNat = min (max (tq / 10000) 1) 65535 ∧
    ((writeTimeout k p idx n tq s).regs.toMs.lowClamp = true ↔ tq / 10000 = 0) ∧
    (writeTimeout k p idx n tq s).regs.toTicks.ticks.toNat = min ((min (max (tq / 10000) 1) 65535 + 1) * 10) 65535 ∧
    ((writeTimeout k p idx n tq s).regs.toTicks.sat = true ↔ 65535 < (min (max (tq / 10000) 1) 65535 + 1) * 10) := by
  simp only [writeTimeout, setTimeout_toTq, setTimeout_toMs, setTimeout_toTicks, lowClamp_iff, tickSat_iff,
    timeoutMs_eq, timeoutTicks_eq, timeoutMsRaw, timeoutTicksRaw, BitVec.toNat_ofNat]
  refine ⟨?_, ?_, trivial, ?_, trivial⟩ <;> omega

end Sys2Proof.Machine
end

