-- ==== Sys2Proof/Tests/Slice0.lean ====
section
/-! SUPPORT. Tests against the vectors of 95_test_vectors.md (START_MARKER = FF FF where a vector needs one), words written
out from 30_encoding.md, the checks of WellFormed, and for each statement with hypotheses a witness that meets them. -/

namespace Sys2Proof.Tests

open Sys2Proof Sys2Proof.Machine

/-! ## Small states -/

/-- The state a step or a command answers, if it is a next state. -/
def nextState (o : Host.Outcome State Fault Refusal) : Option State :=
  match o with
  | .next t => some t
  | .fault _ => none
  | .refused _ => none

/-- A register after a command word was run. -/
def regAfter (w : Word) (s : State) (r : Reg) : Option Word := (nextState (runCommand w s)).map (fun t => readReg t r)

/-- After reset, the given bytes loaded into RXBUF and RX_LEN set to their number. -/
def loadedRx (bytes : List Byte) : State :=
  { State.reset with
    mem := memWriteAll [] 0x01000 bytes
    regs := { Regs.reset with rxLen := BitVec.ofNat 9 bytes.length } }

/-- After reset, the given bytes loaded into TXPAY and TX_LEN set to their number. -/
def loadedTx (bytes : List Byte) : State :=
  { State.reset with
    mem := memWriteAll [] 0x20000 bytes
    regs := { Regs.reset with txLen := BitVec.ofNat 16 bytes.length } }

/-- After reset, with a checksum range and an expected byte. -/
def ranged (src : BitVec 2) (off len : BitVec 17) (expect : Byte) (s : State) : State :=
  { s with regs := { s.regs with csSrc := src, csOff := off, csLen := len, csExpect := expect } }

/-- After reset, with a valid identity whose PMm is the given pair of words. -/
def identified (pmmLo pmmHi : Word) : State :=
  { State.reset with
    regs := { Regs.reset with
      idmLo := 0x04030201, idmHi := 0x08070605, pmmLo := pmmLo, pmmHi := pmmHi
      status := { Regs.reset.status with idValid := true, capHit := true } } }

/-- After reset, in the given cadence slot. -/
def inSlot (c : Cadence) (s : State) : State :=
  { s with regs := { s.regs with status := { s.regs.status with cadence := c } } }

/-- After reset, about to see one host event. -/
def poised (e : HostEvent) (s : State) : State := { s with pending := [e] }

/-- What the host sees of one access. -/
def seen (a : HostAccess) (s : State) : Option (List BusResponse) :=
  (nextState (step (poised (.access a) s))).map State.observed

/-- The sense response of V-E5. -/
def senseFrame : List Byte :=
  [0x00, 0x00, 0xFF, 0xFF, 0xFF, 0x1B, 0x00, 0xE5] ++ List.replicate 9 0xEE
    ++ [0x01, 0x02, 0x03, 0x04, 0x05, 0x06, 0x07, 0x08, 0x00, 0x01, 0x0A, 0x08, 0x04, 0x4B, 0x06, 0x07]
    ++ [0xEE, 0xEE, 0x33, 0x00]

/-- The frame of V-C6. -/
def goodFrame : List Byte := [0x00, 0x00, 0xFF, 0xFF, 0xFF, 0x03, 0x00, 0xFD, 0xD6, 0x2A, 0x01, 0xFF, 0x00]

/-- RX_STATUS, RX_HDR and RX_TRL of a received frame with START_MARKER = FF FF. -/
def parsed (c : Cadence) (raw : List Byte) : Word × Word × Word :=
  (rxStatusWord (parseStatus (0xFF, 0xFF) (classifiedKind c raw) raw),
    placeField (parseHdr raw).len 0 ||| placeField (parseHdr raw).lcs 16,
    placeField (parseTrl raw).dcs 0 ||| placeField (parseTrl raw).post 8 ||| placeField (parseTrl raw).payLen 16)

/-! ## WellFormed: an ill-formed line for each check (30_encoding.md R130 to R132) -/

theorem test_wellFormed_accepts :
    [HostLine.wr32 (.number 0xFFFFF) 0xFFFFFFFF, .rd32 (.register .pmmHi), .wr8 (.inBuffer .rxbuf 289) 0xFF,
      .rd8 (.inBuffer .txfrm 65544), .command (.timeoutSvc 255), .command (.timeoutRead 0), .loadTx [0xD6, 0x2A, 0x01],
      .loadRx [], .csRange (.number 1) 290 0, .srst].all HostLine.wellFormed = true := by decide

theorem test_wellFormed_refuses_wide_address :
    (HostLine.wr32 (.number 0x100000) 0).wellFormed = false ∧ (HostLine.rd32 (.number 0x100000)).wellFormed = false ∧
      (HostLine.wr8 (.number 0x100000) 0).wellFormed = false ∧ (HostLine.rd8 (.number 0x100000)).wellFormed = false := by
  decide

theorem test_wellFormed_refuses_wide_values :
    (HostLine.wr32 (.register .cmd) 0x100000000).wellFormed = false ∧
      (HostLine.wr8 (.inBuffer .rxbuf 0) 256).wellFormed = false ∧ (HostLine.loadTx [0, 256]).wellFormed = false ∧
      (HostLine.loadRx [256]).wellFormed = false := by decide

theorem test_wellFormed_refuses_counts :
    (HostLine.command (.timeoutSvc 256)).wellFormed = false ∧
      (HostLine.command (.timeoutRead 256)).wellFormed = false := by decide

theorem test_wellFormed_refuses_long_loadRx : (HostLine.loadRx (List.replicate 291 0)).wellFormed = false := by
  rw [HostLine.wellFormed, decide_eq_false (by rw [List.length_replicate]; decide), Bool.and_false]

/-- No list longer than TXPAY is accepted. -/
theorem test_wellFormed_refuses_long_loadTx (bytes : List Nat) (h : 65535 < bytes.length) :
    (HostLine.loadTx bytes).wellFormed = false := by
  rw [HostLine.wellFormed, Config.txpMax, decide_eq_false (by omega), Bool.and_false]

theorem test_wellFormed_refuses_wide_range :
    (HostLine.csRange (.number 0x100000000) 0 0).wellFormed = false ∧ (HostLine.csRange (.number 0) 0x100000000 0).wellFormed = false ∧
      (HostLine.csRange (.number 0) 0 0x100000000).wellFormed = false := by decide

theorem test_assemble_refuses_one_bad_line :
    assemble [.srst, .command (.timeoutSvc 256)] = none ∧
      assemble [.srst, .command .capture] = some [.write32 0x00000 1, .write32 0x00004 0x00000006] := by decide

/-! ## Decoding: words written out bit by bit from 30_encoding.md R121 to R123 -/

/-- The seven rows without operands. -/
theorem test_decode_plain_rows :
    decode 0b00000000000000000000000000000000 = .ok .nop ∧ decode 0b00000000000000000000000000000001 = .ok .encode ∧
    decode 0b00000000000000000000000000000010 = .ok .encack ∧ decode 0b00000000000000000000000000000011 = .ok .classify ∧
    decode 0b00000000000000000000000000000100 = .ok .csum ∧ decode 0b00000000000000000000000000000101 = .ok .cschk ∧
    decode 0b00000000000000000000000000000110 = .ok .capture := by decide

/-- TIMEOUT: OP 00000111, N in bits 15:8, K in bits 19:16. -/
theorem test_decode_timeout_rows :
    decode 0b00000000000000001010010100000111 = .ok (.timeoutSys 0xA5) ∧
    decode 0b00000000000000010000010000000111 = .ok (.timeoutSvc 4) ∧
    decode 0b00000000000000101111111000000111 = .ok (.timeoutRead 254) ∧
    decode 0b00000000000000110000000100000111 = .ok (.timeoutSense 1) := by decide

/-- V-X4 to V-X10, and the edges of the reserved fields. -/
theorem test_decode_refuses_by_name :
    decode 0x00000008 = .err .illop ∧ decode 0xFFFFFFFF = .err .illop ∧ decode 0x00000101 = .err .rsvd ∧
    decode 0x01F40007 = .err .rsvd ∧ decode 0x00040007 = .err .kind ∧ decode 0x000F0507 = .err .kind ∧
    decode 0x00FF0507 = .err .rsvd ∧ decode 0x80000000 = .err .rsvd ∧ decode 0x00100007 = .err .rsvd := by decide

/-- The encoder writes the words of R131. -/
theorem test_encode_words :
    encode .capture = 0x00000006 ∧ encode (.timeoutSvc 4) = 0x00010407 ∧ encode (.timeoutRead 3) = 0x00020307 ∧
      encode (.timeoutSense 0) = 0x00030007 := by decide

/-- No word is in two rows of the opcode map (R128): each pair differs in a bit both masks fix. -/
theorem test_opcode_rows_disjoint :
    opcodeTable.Pairwise (fun r r' => (r.pattern ^^^ r'.pattern) &&& (r.mask &&& r'.mask) ≠ 0) := by decide

/-- The host's numbering: bit 0 is the word's lowest, bits above `nbits` are 0. -/
theorem test_decodeTableWord :
    decodeTableWord 32 0x00010407 = some (.timeoutSvc 4) ∧ decodeTableWord 8 0x107 = some (.timeoutSys 0) ∧
      decodeTableWord 32 0x00040007 = none := by decide

/-- From reset, the word `withFetchWord` places is run by the very next step (V-T20). -/
theorem test_step_runs_fetch_word :
    (nextState (step (State.reset.withFetchWord 32 0x00030007))).map
      (fun t => (readReg t .toTicks, readReg t .toCoef, readReg t .status)) = some (0x6E, 0x300F0000, 0x07000000) := by
  decide

/-! ## The checksum unit (95_test_vectors.md 2.1) -/

/-- V-K1 to V-K11. -/
theorem test_checksum_vectors :
    ([[], [0x01], [0xFF], [0xFF, 0xFF, 0xFF], [0x80, 0x80], [0x03, 0x00], [0xFF, 0xFF], [0x1B, 0x00], [0xD6, 0x2A, 0x01],
      [0x00, 0x00, 0x00, 0x00, 0x00], [0x01, 0x02, 0x03, 0x04, 0x05, 0x06, 0x07, 0x08]] : List (List Byte)).map
        (fun b => (sum8 b, cs b)) =
      [(0x00, 0x00), (0x01, 0xFF), (0xFF, 0x01), (0xFD, 0x03), (0x00, 0x00), (0x03, 0xFD), (0xFE, 0x02), (0x1B, 0xE5),
        (0x01, 0xFF), (0x00, 0x00), (0x24, 0xDC)] := by decide

/-- V-K9 and the program P1: CSUM over TXPAY[0, 3). -/
theorem test_csum_writes_result :
    regAfter 0x00000004 (ranged 0 0 3 0 (loadedTx [0xD6, 0x2A, 0x01])) .csResult = some 0x000001FF ∧
      regAfter 0x00000004 (ranged 0 1 2 0 (loadedTx [0xD6, 0xFF, 0xFF])) .csResult = some 0x0000FE02 := by decide

/-- V-K13 (over RXBUF), V-K16 and V-K17. -/
theorem test_cschk_sets_ok :
    regAfter 0x00000005 (ranged 1 5 2 0xFD (loadedRx goodFrame)) .csResult = some 0x000103FD ∧
      regAfter 0x00000005 (ranged 1 290 0 0x00 State.reset) .csResult = some 0x00010000 ∧
      regAfter 0x00000005 (ranged 1 290 0 0x01 State.reset) .csResult = some 0x00000000 := by decide

/-- V-K18 to V-K21, and the legal edge V-K22. -/
theorem test_checksum_ranges :
    (checksumRange (ranged 1 200 91 0 State.reset)).isSome = false ∧
      (checksumRange (ranged 3 0 0 0 State.reset)).isSome = false ∧
      (checksumRange (ranged 0 65535 1 0 State.reset)).isSome = false ∧
      (checksumRange (ranged 2 0 65546 0 State.reset)).isSome = false ∧
      (checksumRange (ranged 2 0 65545 0 State.reset)).isSome = true := by decide

/-- V-X12. -/
theorem test_csum_range_error :
    regAfter 0x00000004 (ranged 3 0 0 0 State.reset) .status = some 0x04000005 := by decide

/-! ## The frame codec (95_test_vectors.md 2.2, 2.3) -/

/-- V-E1, V-E4 and V-E5. -/
theorem test_command_frames :
    commandFrame (0xFF, 0xFF) [0xD6, 0x2A, 0x01] = goodFrame ∧
      commandFrame (0xFF, 0xFF) [] = [0x00, 0x00, 0xFF, 0xFF, 0xFF, 0x00, 0x00, 0x00, 0x00, 0x00] ∧
      commandFrame (0xFF, 0xFF) ((senseFrame.drop 8).take 27) = senseFrame := by decide

/-- V-E1 and V-E6: the status and the length ENCODE leaves. -/
theorem test_encode_status :
    regAfter 0x00000001 (loadedTx [0xD6, 0x2A, 0x01]) .status = some 0x01000010 ∧
      regAfter 0x00000001 (loadedTx [0xD6, 0x2A, 0x01]) .txfLen = some 13 ∧
      regAfter 0x00000001 (inSlot .awaitAck (loadedTx [0xD6, 0x2A, 0x01])) .status = some 0x01000110 := by decide

/-- V-E3 and V-E7: ENCACK writes six bytes and leaves the seventh. -/
theorem test_encack_frame :
    (nextState (runCommand 0x00000002 { inSlot .awaitAck State.reset with mem := [(0x40002, 0x11), (0x40006, 0x77)] })).map
        (fun t => (t.mem, readReg t .txfLen, readReg t .status)) =
      some ([(0x40000, 0x00), (0x40001, 0x00), (0x40002, 0xFF), (0x40003, 0x00), (0x40004, 0xFF), (0x40005, 0x00),
        (0x40006, 0x77)], 6, 0x02000010) := by decide

/-- V-C1 to V-C13. -/
theorem test_classify_parse :
    ([[], [0x00, 0x00, 0xFF, 0x00], [0x00, 0x00, 0xFF, 0x00, 0xFF], [0x00, 0x00, 0xFF, 0x00, 0xFF, 0x12, 0x34, 0x56],
      [0x00, 0x00, 0xFF, 0x00, 0xFF, 0x00], goodFrame, goodFrame.set 11 0xFE, (goodFrame.set 3 0x00).set 4 0x00,
      goodFrame ++ [0x00], [0x00, 0x00, 0xFF, 0xFF, 0xFF, 0x00, 0x01, 0xFF, 0x01, 0x02, 0x03, 0x04, 0x05],
      [0x00, 0x00, 0xFF, 0xFF, 0xFF, 0x00, 0x00, 0x00, 0x00, 0x00], senseFrame,
      [0x00, 0x00, 0xFF, 0x00, 0xFF, 0x01, 0x00, 0xFF, 0x7F, 0x81, 0x00]] : List (List Byte)).map (parsed .idle) =
    [(0x102, 0, 0), (0x102, 0, 0), (0x107, 0, 0), (0x107, 0x00563412, 0), (0x10F, 0, 0),
      (0xF2, 0x00FD0003, 0x000300FF), (0xB2, 0x00FD0003, 0x000300FE), (0xE2, 0x00FD0003, 0x000300FF),
      (0x2F2, 0x00FD0003, 0x000300FF), (0x132, 0x00FF0100, 0x00050000), (0xF2, 0, 0), (0x4F2, 0x00E5001B, 0x001B0033),
      (0xE7, 0x00FF0001, 0x00010081)] := by decide

/-- V-C14 to V-C18: the kind by slot, and the slot after. -/
theorem test_classify_cadence :
    (parsed .awaitAck goodFrame).1 = 0xF1 ∧ (parsed .awaitAck Config.ack6).1 = 0x10D ∧
      (parsed .awaitResp Config.ack6).1 = 0x10F ∧
      regAfter 0x00000003 (inSlot .awaitAck (loadedRx Config.ack6)) .status = some 0x03000020 ∧
      regAfter 0x00000003 (inSlot .awaitResp (loadedRx Config.ack6)) .status = some 0x03000000 := by decide

/-! ## Identity and timeouts (95_test_vectors.md 2.4, 2.5) -/

/-- V-P1. -/
theorem test_capture_hit :
    (nextState (runCommand 0x00000006 (loadedRx senseFrame))).map (fun t =>
        ([Reg.idmLo, .idmHi, .pmmLo, .pmmHi, .status].map (readReg t))) =
      some [0x04030201, 0x08070605, 0x080A0100, 0x07064B04, 0x06030000] := by decide

/-- V-P3: after a hit, 38 bytes miss and keep the identity. -/
theorem test_capture_miss :
    let s := identified 0x080A0100 0x07064B04
    (nextState (runCommand 0x00000006 { s with regs := { s.regs with rxLen := 38 } })).map (fun t =>
        ([Reg.idmLo, .pmmHi, .status].map (readReg t))) =
      some [0x04030201, 0x07064B04, 0x06010000] := by decide

/-- TO_TQ, TO_MS and TO_TICKS after a command word, with an identity. -/
def timed (w : Word) (pmmLo pmmHi : Word) : Option (List Word) :=
  (nextState (runCommand w (identified pmmLo pmmHi))).map (fun t => [Reg.toTq, .toMs, .toTicks].map (readReg t))

/-- V-T2, V-T3, V-T4, V-T6 and V-T8. -/
theorem test_timeout_sys :
    timed 0x00000007 0x05000000 0 = some [20000, 2, 30] ∧ timed 0x00000007 0x06000000 0 = some [21140, 2, 30] ∧
      timed 0x00000007 0x08000000 0 = some [20000, 2, 30] ∧ timed 0x00000007 0x41000000 0 = some [24160, 2, 30] ∧
      timed 0x00000007 0xFF000000 0 = some [1546240, 154, 1550] := by decide

/-- V-T9, V-T11, V-T15 and V-T17. -/
theorem test_timeout_svc :
    timed 0x00010007 0x00000000 0 = some [3020, 0x00010001, 20] ∧
      timed 0x00010407 0x000A0000 0 = some [33220, 3, 40] ∧
      timed 0x0001E107 0x00AD0000 0 = some [65521920, 6552, 65530] ∧
      timed 0x0001FF07 0x00FF0000 0 = some [395837440, 39583, 0x0001FFFF] := by decide

/-- V-T16, V-T18, V-T19 and V-T21. -/
theorem test_timeout_read :
    timed 0x0002E107 0 0x0000AD00 = some [65543616, 6554, 0x0001FFFF] ∧
      timed 0x00020007 0 0x00000000 = some [3021, 0x00010001, 20] ∧
      timed 0x00020307 0 0x00004B00 = some [120840, 12, 130] ∧
      timed 0x0002FF07 0 0x0000FF00 = some [395968512, 39596, 0x0001FFFF] := by decide

/-- TO_COEF of V-T4 (with V-X11's N), V-T11, V-T19 and V-T20. -/
theorem test_timeout_coefs :
    regAfter 0x0000FF07 (identified 0x080A0100 0x07064B04) .toCoef = some 0x00030808 ∧
      regAfter 0x00010407 (identified 0x080A0100 0x07064B04) .toCoef = some 0x10420A0A ∧
      regAfter 0x00020307 (identified 0x080A0100 0x07064B04) .toCoef = some 0x20354B4B ∧
      regAfter 0x00030007 State.reset .toCoef = some 0x300F0000 := by decide

/-! ## Command errors and the bus (95_test_vectors.md 2.6, 2.7) -/

/-- V-X1 to V-X10, V-X13. -/
theorem test_command_errors :
    ([0x00000007, 0x00010507, 0x00030007, 0x00000008, 0xFFFFFFFF, 0x00000101, 0x01F40007, 0x00040007, 0x000F0507,
      0x00FF0507, 0x00000000] : List Word).map (fun w => regAfter w (setErr (some .range) State.reset) .status) =
    [some 0x07000004, some 0x07000004, some 0x07000000, some 0x08000001, some 0xFF000001, some 0x01000002,
      some 0x07000002, some 0x07000003, some 0x07000003, some 0x07000002, some 0x00000000] := by decide

/-- V-B1 to V-B7: refused accesses, a reserved offset, a read-only register. -/
theorem test_bus_refusals :
    ([.read8 0x00000, .read32 0x00002, .read32 0x01000, .write8 0x40000 0x55, .read32 0x00100, .read8 0x01122,
      .read8 0x2FFFF, .read8 0x50009, .read8 0xFFFFF, .read32 0x00058, .write32 0x00008 0xFFFFFFFF] :
        List HostAccess).map (fun a => seen a State.reset) =
    [some [.refusedRead 0], some [.refusedRead 0], some [.refusedRead 0], some [.refusedWrite], some [.refusedRead 0],
      some [.refusedRead 0], some [.refusedRead 0], some [.refusedRead 0], some [.refusedRead 0], some [.word 0],
      some [.accepted]] := by decide

/-- V-B8, V-B9 and V-B11. -/
theorem test_bus_register_writes :
    ((nextState (step (poised (.access (.write32 0x00014 1000)) State.reset))).map (fun t => readReg t .rxLen)) =
        some 0x122 ∧
      ((nextState (step (poised (.access (.write32 0x0000C 0x12345678)) State.reset))).map (fun t => readReg t .txLen)) =
        some 0x5678 ∧
      ((nextState (step (poised (.access (.write32 0x00000 1)) (loadedRx [0x5A])))).map
        (fun t => (readReg t .rxLen, t.mem))) = some (0, [(0x01000, 0x5A)]) := by decide

/-- V-B10: the last byte of RXBUF and of TXFRM, written and read. -/
theorem test_bus_last_bytes :
    ((nextState (step (poised (.access (.write8 0x01121 0xA5)) State.reset))).map State.mem) = some [(0x01121, 0xA5)] ∧
      seen (.read8 0x50008) { State.reset with mem := [(0x50008, 0x3C)] } = some [.byte 0x3C] := by decide

/-! ## Witnesses: states and operands that meet the hypotheses of the statements -/

theorem witness_EncodeInvertsDecode : decode 0x0002FF07 = .ok (.timeoutRead 255) := by decide

/-- Each of the four clauses, at both ends of its range. -/
theorem witness_IllegalWordsRaiseTheirError :
    (8 ≤ (0x00000008 : Word).toNat % 256 ∧ 8 ≤ (0xFFFFFFFF : Word).toNat % 256) ∧
    (((0x00000100 : Word).toNat % 256 ≤ 6 ∧ (0x00000100 : Word).toNat / 256 ≠ 0) ∧
      ((0x80000006 : Word).toNat % 256 ≤ 6 ∧ (0x80000006 : Word).toNat / 256 ≠ 0)) ∧
    (((0x00100007 : Word).toNat % 256 = 7 ∧ (0x00100007 : Word).toNat / 2 ^ 20 ≠ 0) ∧
      ((0xFFFFFF07 : Word).toNat % 256 = 7 ∧ (0xFFFFFF07 : Word).toNat / 2 ^ 20 ≠ 0)) ∧
    (((0x00040007 : Word).toNat % 256 = 7 ∧ (0x00040007 : Word).toNat / 2 ^ 20 = 0 ∧
        4 ≤ (0x00040007 : Word).toNat / 2 ^ 16 % 16) ∧
      ((0x000FFF07 : Word).toNat % 256 = 7 ∧ (0x000FFF07 : Word).toNat / 2 ^ 20 = 0 ∧
        4 ≤ (0x000FFF07 : Word).toNat / 2 ^ 16 % 16)) := by decide

theorem witness_StepRunsDecodedCommand :
    (State.reset.withFetchWord 32 0x00010407).pending = .access (.write32 0x00004 0x00010407) :: [] ∧
      decode 0x00010407 = .ok (.timeoutSvc 4) ∧
      (State.reset.withFetchWord 32 0x000F0507).pending = .access (.write32 0x00004 0x000F0507) :: [] ∧
      decode 0x000F0507 = .err .kind := ⟨rfl, rfl, rfl, rfl⟩

/-- A state no run needs to reach from reset by itself: a written byte, an identity, a host write waiting. -/
theorem witness_StepKeepsBlockInvariant :
    let s := poised (.access (.write8 0x20000 7)) { identified 5 6 with mem := [(0x01000, 1), (0x50008, 2)] }
    BlockInvariant s ∧ ∃ t, step s = .next t := by
  refine ⟨?_, _, rfl⟩
  constructor <;> decide

theorem witness_WaitingBlockStaysAsItIs : State.reset.pending = [] := rfl

/-- Each clause where its range begins or ends. -/
theorem witness_RefusedAccessesChangeNothing :
    ((poised (.access (.read32 0x00100)) State.reset).pending = .access (.read32 0x00100) :: [] ∧
      (0x100 ≤ (0x00100 : Addr).toNat ∨ (0x00100 : Addr).toNat % 4 ≠ 0) ∧
      (0x100 ≤ (0x000FF : Addr).toNat ∨ (0x000FF : Addr).toNat % 4 ≠ 0)) ∧
    ((poised (.access (.write32 0xFFFFC 1)) State.reset).pending = .access (.write32 0xFFFFC 1) :: [] ∧
      (0x100 ≤ (0xFFFFC : Addr).toNat ∨ (0xFFFFC : Addr).toNat % 4 ≠ 0)) ∧
    ((poised (.access (.read8 0x01122)) State.reset).pending = .access (.read8 0x01122) :: [] ∧
      ∀ a ∈ ([0x00FFF, 0x01122, 0x1FFFF, 0x2FFFF, 0x3FFFF, 0x50009] : List Addr),
        ¬ (0x01000 ≤ a.toNat ∧ a.toNat ≤ 0x01121) ∧ ¬ (0x20000 ≤ a.toNat ∧ a.toNat ≤ 0x2FFFE) ∧
          ¬ (0x40000 ≤ a.toNat ∧ a.toNat ≤ 0x50008)) ∧
    ((poised (.access (.write8 0x40000 0x55)) State.reset).pending = .access (.write8 0x40000 0x55) :: [] ∧
      ¬ (0x01000 ≤ (0x40000 : Addr).toNat ∧ (0x40000 : Addr).toNat ≤ 0x01121) ∧
      ¬ (0x20000 ≤ (0x40000 : Addr).toNat ∧ (0x40000 : Addr).toNat ≤ 0x2FFFE)) :=
  ⟨⟨rfl, by decide⟩, ⟨rfl, by decide⟩, ⟨rfl, by simp⟩, rfl, by decide⟩

theorem witness_BufferAccessesReadAndWriteOneByte :
    ((poised (.access (.write8 0x2FFFE 7)) State.reset).pending = .access (.write8 0x2FFFE 7) :: [] ∧
      ((0x01000 ≤ (0x2FFFE : Addr).toNat ∧ (0x2FFFE : Addr).toNat ≤ 0x01121) ∨
        (0x20000 ≤ (0x2FFFE : Addr).toNat ∧ (0x2FFFE : Addr).toNat ≤ 0x2FFFE))) ∧
    ((poised (.access (.read8 0x50008)) State.reset).pending = .access (.read8 0x50008) :: [] ∧
      ((0x01000 ≤ (0x50008 : Addr).toNat ∧ (0x50008 : Addr).toNat ≤ 0x01121) ∨
        (0x20000 ≤ (0x50008 : Addr).toNat ∧ (0x50008 : Addr).toNat ≤ 0x2FFFE) ∨
        (0x40000 ≤ (0x50008 : Addr).toNat ∧ (0x50008 : Addr).toNat ≤ 0x50008))) :=
  ⟨⟨rfl, by decide⟩, rfl, by decide⟩

theorem witness_ReadsChangeNothingAndRepeat :
    (∃ a, HostAccess.read8 0x01121 = .read32 a ∨ HostAccess.read8 0x01121 = .read8 a) ∧
      ({ State.reset with pending := [.access (.read8 0x01121), .access (.read8 0x01121)] } : State).pending =
        .access (.read8 0x01121) :: .access (.read8 0x01121) :: [] := ⟨⟨_, .inr rfl⟩, rfl⟩

theorem witness_WritableRegistersStoreTheirBits :
    ∀ a ∈ ([0x0000C, 0x00024, 0x00028, 0x0002C, 0x00030] : List Addr),
      (poised (.access (.write32 a 0xFFFFFFFF)) State.reset).pending = .access (.write32 a 0xFFFFFFFF) :: [] :=
  fun _ _ => rfl

theorem witness_RxLenStoresAtMost290 :
    (poised (.access (.write32 0x00014 291)) State.reset).pending = .access (.write32 0x00014 291) :: [] := rfl

theorem witness_ReservedOffsetsReadZeroIgnoreWrites :
    (∀ a ∈ ([0x00058, 0x000FC] : List Addr), 0x58 ≤ a.toNat ∧ a.toNat ≤ 0xFC ∧ a.toNat % 4 = 0) ∧
      (poised (.access (.read32 0x00058)) State.reset).pending = .access (.read32 0x00058) :: [] ∧
      (poised (.access (.write32 0x000FC 1)) State.reset).pending = .access (.write32 0x000FC 1) :: [] :=
  ⟨by simp, rfl, rfl⟩

theorem witness_ReadOnlyRegistersIgnoreWrites :
    (0x00054 : Addr).toNat ∈
        [0x08, 0x10, 0x18, 0x1C, 0x20, 0x34, 0x38, 0x3C, 0x40, 0x44, 0x48, 0x4C, 0x50, 0x54] ∧
      (poised (.access (.write32 0x00054 1)) State.reset).pending = .access (.write32 0x00054 1) :: [] :=
  ⟨by decide, rfl⟩

/-- The first, the last and a middle entry of the list of registers. -/
theorem witness_OneFieldRegistersReadAtTheirOffsets :
    let s := identified 0x080A0100 0x07064B04
    let entries : List (Addr × Nat) := [(0x00000, 0), (0x00004, s.regs.cmd.toNat), (0x0000C, s.regs.txLen.toNat),
      (0x00010, s.regs.txfLen.toNat), (0x00014, s.regs.rxLen.toNat), (0x00024, s.regs.csSrc.toNat),
      (0x00028, s.regs.csOff.toNat), (0x0002C, s.regs.csLen.toNat), (0x00030, s.regs.csExpect.toNat),
      (0x00048, s.regs.idmLo.toNat), (0x0004C, s.regs.idmHi.toNat), (0x00050, s.regs.pmmLo.toNat),
      (0x00054, s.regs.pmmHi.toNat)]
    (0x00000, 0) ∈ entries ∧ (0x00048, 0x04030201) ∈ entries ∧ (0x00054, 0x07064B04) ∈ entries := by
  decide

theorem witness_StatusReadsItsFieldsInPlace :
    (poised (.access (.read32 0x00008)) (identified 5 6)).pending = .access (.read32 0x00008) :: [] := rfl

theorem witness_EveryRegisterResetsToZero :
    (State.reset = State.reset ∨ (∃ s, State.reset = softReset s) ∨ (∃ s, State.reset = powerOn s)) ∧
      (∃ s, softReset (identified 5 6) = softReset s) ∧ (∃ s, powerOn (identified 5 6) = powerOn s) :=
  ⟨.inl rfl, ⟨_, rfl⟩, ⟨_, rfl⟩⟩

theorem witness_SoftResetClearsRegistersKeepsBuffers :
    (poised (.access (.write32 0x00000 3)) (loadedRx [0x5A])).pending = .access (.write32 0x00000 3) :: [] ∧
      (3 : Word).toNat % 2 = 1 ∧
      (poised (.access (.write32 0x00000 0xFFFFFFFE)) (loadedRx [0x5A])).pending =
        .access (.write32 0x00000 0xFFFFFFFE) :: [] ∧
      (0xFFFFFFFE : Word).toNat % 2 = 0 := ⟨rfl, rfl, rfl, rfl⟩

theorem witness_PowerOnClearsRegistersAndUnwritesBuffers :
    (poised .powerOnReset (loadedRx [0x5A])).pending = .powerOnReset :: [] := rfl

theorem witness_CommandErrorsArePrecise :
    ∃ t, runCommand 0x00000007 State.reset = .next t ∧ t.regs.status.err ≠ none := ⟨_, rfl, by decide⟩

theorem witness_CmdReadsBackTheLastWord :
    (poised (.access (.write32 0x00004 0x000F0507)) State.reset).pending =
      .access (.write32 0x00004 0x000F0507) :: [] := rfl

/-- The three sources, each with its largest legal range. -/
theorem witness_legal_checksum_ranges :
    let tx := ranged 0 0 65535 0 State.reset
    let rx := ranged 1 290 0 0 State.reset
    let fr := ranged 2 65544 1 0 State.reset
    (tx.regs.csSrc = 0 ∧ tx.regs.csOff.toNat + tx.regs.csLen.toNat ≤ 65535) ∧
    (rx.regs.csSrc = 1 ∧ rx.regs.csOff.toNat + rx.regs.csLen.toNat ≤ 290) ∧
    (fr.regs.csSrc = 2 ∧ fr.regs.csOff.toNat + fr.regs.csLen.toNat ≤ 65545) := by decide

theorem witness_CsumReportsSumAndChecksum :
    (((ranged 1 0 290 0 State.reset).regs.csSrc = 0 ∧ 0x01000 = 0x20000 ∧ 290 = 65535) ∨
      ((ranged 1 0 290 0 State.reset).regs.csSrc = 1 ∧ 0x01000 = 0x01000 ∧ 290 = 290) ∨
      ((ranged 1 0 290 0 State.reset).regs.csSrc = 2 ∧ 0x01000 = 0x40000 ∧ 290 = 65545)) ∧
    (ranged 1 0 290 0 State.reset).regs.csOff.toNat + (ranged 1 0 290 0 State.reset).regs.csLen.toNat ≤ 290 := by
  decide

theorem witness_CschkSaysWhetherTheByteValidates :
    (((ranged 2 8 3 0xFF State.reset).regs.csSrc = 0 ∧ 0x40000 = 0x20000 ∧ 65545 = 65535) ∨
      ((ranged 2 8 3 0xFF State.reset).regs.csSrc = 1 ∧ 0x40000 = 0x01000 ∧ 65545 = 290) ∨
      ((ranged 2 8 3 0xFF State.reset).regs.csSrc = 2 ∧ 0x40000 = 0x40000 ∧ 65545 = 65545)) ∧
    (ranged 2 8 3 0xFF State.reset).regs.csOff.toNat + (ranged 2 8 3 0xFF State.reset).regs.csLen.toNat ≤ 65545 := by
  decide

/-- Each of the four clauses, one past the legal edge, for both commands. -/
theorem witness_IllegalChecksumRangesTrap :
    (Instr.csum = .csum ∨ Instr.csum = .cschk) ∧ (Instr.cschk = .csum ∨ Instr.cschk = .cschk) ∧
    (ranged 3 0 0 0 State.reset).regs.csSrc = 3 ∧
    (let s := ranged 0 65535 1 0 State.reset;
      s.regs.csSrc = 0 ∧ 65535 < s.regs.csOff.toNat + s.regs.csLen.toNat) ∧
    (let s := ranged 1 200 91 0 State.reset;
      s.regs.csSrc = 1 ∧ 290 < s.regs.csOff.toNat + s.regs.csLen.toNat) ∧
    (let s := ranged 2 0 65546 0 State.reset;
      s.regs.csSrc = 2 ∧ 65545 < s.regs.csOff.toNat + s.regs.csLen.toNat) := by decide

theorem witness_ClassifyReportsTheParse :
    let s := loadedRx goodFrame
    ∃ (L len : Nat) (ext : Nat → Byte), L = s.regs.rxLen.toNat ∧
      (∀ i, ext i = if i < L then bufByte s .rxbuf i else 0) ∧ len = (ext 5).toNat + 256 * (ext 6).toNat :=
  ⟨_, _, _, rfl, fun _ => rfl, rfl⟩

/-- The hypotheses of its clauses: both sides of the ACK slot, a failure and a success, a command that keeps the slot, a
command that ends with an error. -/
theorem witness_CadenceFollowsTheTwoReadTable :
    (inSlot .awaitAck State.reset).regs.status.cadence = .awaitAck ∧
    (let s := inSlot .awaitResp (loadedRx Config.errSig);
      s.regs.status.cadence ≠ .awaitAck ∧ 5 ≤ s.regs.rxLen.toNat ∧ bufByte s .rxbuf 0 = 0x00 ∧
        bufByte s .rxbuf 1 = 0x00 ∧ bufByte s .rxbuf 2 = 0xFF ∧ bufByte s .rxbuf 3 = 0x00 ∧
        bufByte s .rxbuf 4 = 0xFF) ∧
    ¬ 5 ≤ (loadedRx [0x00, 0x00, 0xFF, 0x00]).regs.rxLen.toNat ∧
    (∃ t, Instr.capture ≠ .encode ∧ Instr.capture ≠ .classify ∧ exec .capture State.reset = .next t) ∧
    (∃ t, runCommand 0x00000007 State.reset = .next t ∧ t.regs.status.err ≠ none) :=
  ⟨rfl, by decide, by decide, ⟨_, by decide, by decide, rfl⟩, ⟨_, rfl, by decide⟩⟩

/-- Two states that differ only beyond the received frame. -/
theorem witness_ClassifyIgnoresBytesBeyondTheFrame :
    let s := loadedRx [0x12]
    let s' := { s with mem := [(0x01000, 0x12), (0x01001, 0x34)] }
    s'.regs = s.regs ∧ (∀ i < s.regs.rxLen.toNat, bufByte s' .rxbuf i = bufByte s .rxbuf i) := by
  decide

/-- A one-byte payload encoded, its frame copied to RXBUF. -/
theorem witness_EncodeThenClassifyRoundTrips :
    let s := loadedTx [0x5A]
    let u : State := { State.reset with
      mem := memWriteAll [] 0x01000 (commandFrame Config.startMarker [0x5A])
      regs := { Regs.reset with rxLen := 11 } }
    s.regs.txLen.toNat ≤ 280 ∧ ∃ t, exec .encode s = .next t ∧
      (∀ i < t.regs.txfLen.toNat, bufByte u .rxbuf i = bufByte t .txfrm i) ∧
      u.regs.rxLen.toNat = t.regs.txfLen.toNat ∧ u.regs.status.cadence ≠ .awaitAck := by
  refine ⟨by decide, _, rfl, fun i hi => ?_, by decide, by decide⟩
  replace hi : i < 11 := hi
  interval_cases i <;> rfl

/-- Any payload of at most 280 bytes meets the hypotheses: its frame, copied to RXBUF, with RX_LEN its length. -/
theorem witness_EncodeThenClassifyRoundTrips_of (s : State) (h : s.regs.txLen.toNat ≤ 280) :
    let frame := commandFrame Config.startMarker (payloadOperand s)
    let u : State := { State.reset with
      mem := memWriteAll [] 0x01000 frame
      regs := { Regs.reset with rxLen := BitVec.ofNat 9 frame.length } }
    ∃ t, exec .encode s = .next t ∧
      (∀ i < t.regs.txfLen.toNat, bufByte u .rxbuf i = bufByte t .txfrm i) ∧
      u.regs.rxLen.toNat = t.regs.txfLen.toNat ∧ u.regs.status.cadence ≠ .awaitAck := by
  intro frame u
  have hlen : frame.length = s.regs.txLen.toNat + 10 := by rw [commandFrame_length, payloadOperand_length]
  refine ⟨_, rfl, fun i hi => ?_, ?_, fun h => nomatch h⟩
  · replace hi : i < frame.length := Nat.lt_of_lt_of_le hi (Nat.mod_le _ _)
    refine Eq.trans ?_ (bufByte_writeFrame frame (markSequence s) i _ (List.getElem?_eq_getElem hi)).symm
    simp only [bufByte, byteAt, u, memLookup_memWriteAll, bufAddr, bufBase]
    rw [dif_pos ⟨Nat.le_add_right _ _, by rw [Nat.add_sub_cancel_left]; exact hi⟩]
    simp
  · show (BitVec.ofNat 9 frame.length).toNat = (BitVec.ofNat 17 frame.length).toNat
    simp only [BitVec.toNat_ofNat]
    omega

/-- The boundary of R191: 280 payload bytes meet the hypotheses with a frame of exactly 290, 281 give a longer one. -/
theorem witness_EncodeThenClassifyRoundTrips_boundary :
    (loadedTx (List.replicate 280 0x5A)).regs.txLen.toNat ≤ 280 ∧
      (∃ t, exec .encode (loadedTx (List.replicate 280 0x5A)) = .next t ∧ t.regs.txfLen.toNat = 290) ∧
      (∃ t, exec .encode (loadedTx (List.replicate 281 0x5A)) = .next t ∧ 290 < t.regs.txfLen.toNat) := by
  have h280 : (loadedTx (List.replicate 280 0x5A)).regs.txLen.toNat = 280 := by
    simp only [loadedTx, List.length_replicate]; decide
  have h281 : (loadedTx (List.replicate 281 0x5A)).regs.txLen.toNat = 281 := by
    simp only [loadedTx, List.length_replicate]; decide
  refine ⟨Nat.le_of_eq h280, ⟨_, rfl, ?_⟩, ⟨_, rfl, ?_⟩⟩
  · show (BitVec.ofNat 17 (commandFrame _ _).length).toNat = 290
    rw [commandFrame_length, payloadOperand_length, h280]; decide
  · show 290 < (BitVec.ofNat 17 (commandFrame _ _).length).toNat
    rw [commandFrame_length, payloadOperand_length, h281]; decide

theorem witness_SeqErrIsClearedOnlyByReset :
    let s := poised (.access (.write32 0x00004 0)) (identified 5 6)
    let q := { s with regs := { s.regs with status := { s.regs.status with seqErr := true } } }
    (∃ t, step q = .next t) ∧ q.regs.status.seqErr = true := ⟨⟨_, rfl⟩, rfl⟩

theorem witness_IdentityChangesOnlyByCaptureOrReset :
    ∃ t, step (poised (.access (.write32 0x00004 6)) (loadedRx senseFrame)) = .next t := ⟨_, rfl⟩

theorem witness_BuffersChangeOnlyByTheirWriters :
    let s := poised (.access (.write8 0x01121 7)) { State.reset with mem := [(0x01121, 8)] }
    (∃ t, step s = .next t ∧ bufByte t .rxbuf 289 ≠ bufByte s .rxbuf 289) ∧
      (∀ rest, s.pending ≠ .powerOnReset :: rest) ∧
      (poised (.access (.write8 0x40000 0x55)) State.reset).pending = .access (.write8 0x40000 0x55) :: [] ∧
      0x40000 ≤ (0x40000 : Addr).toNat ∧ (0x40000 : Addr).toNat ≤ 0x50008 :=
  ⟨⟨_, rfl, by decide⟩, (fun _ h => nomatch h), rfl, by decide, by decide⟩

/-- Two states that differ only in bytes that ENCODE, CLASSIFY, CAPTURE and the legal checksum range do not read. -/
theorem witness_FreeBytesDoNotReachCommandsWithInputsSet_agree :
    let s := ranged 0 0 1 0 { loadedTx [0x5A] with mem := [(0x20000, 0x5A), (0x20001, 0x11), (0x40000, 0x22)] }
    let s' := { s with mem := [(0x20000, 0x5A), (0x20001, 0x33), (0x40000, 0x44)] }
    s'.regs = s.regs ∧ (∀ k < s.regs.txLen.toNat, bufByte s' .txpay k = bufByte s .txpay k) ∧
      (∀ k < s.regs.rxLen.toNat, bufByte s' .rxbuf k = bufByte s .rxbuf k) ∧ ¬ s.regs.rxLen.toNat = 37 ∧
      (∀ k < s.regs.csLen.toNat,
        bufByte s' .txpay (s.regs.csOff.toNat + k) = bufByte s .txpay (s.regs.csOff.toNat + k)) := by
  refine ⟨rfl, ?_, ?_, by decide, ?_⟩ <;> decide

/-- Two sense responses that differ in a byte CAPTURE does not read. -/
theorem witness_FreeBytesDoNotReachCommandsWithInputsSet_capture :
    let s := loadedRx senseFrame
    let s' := { s with mem := memWrite s.mem 0x01000 0x77 }
    s'.regs = s.regs ∧ s.regs.rxLen.toNat = 37 ∧ bufByte s' .rxbuf 0 ≠ bufByte s .rxbuf 0 ∧
      (∀ k < 16, bufByte s' .rxbuf (17 + k) = bufByte s .rxbuf (17 + k)) := by
  refine ⟨rfl, by decide, by decide, ?_⟩
  decide

/-- Every command that reads a buffer, with its bytes written. -/
theorem witness_FreeBytesDoNotReachCommandsWithInputsSet :
    inputsSet .encode (loadedTx [0x5A]) = true ∧ inputsSet .classify (loadedRx goodFrame) = true ∧
      inputsSet .csum (ranged 1 5 2 0 (loadedRx goodFrame)) = true ∧
      inputsSet .cschk (ranged 1 290 1 0 State.reset) = true ∧ inputsSet .capture (loadedRx senseFrame) = true := by
  decide

theorem witness_CaptureLoadsTheIdentity : (loadedRx senseFrame).regs.rxLen.toNat = 37 := by decide

theorem witness_CaptureMissKeepsTheIdentity : (loadedRx (senseFrame ++ [0x00])).regs.rxLen.toNat ≠ 37 := by decide

theorem witness_TimeoutSysScalesPmmByteThree :
    let s := identified 0xC7000000 0
    s.regs.status.idValid = true ∧ 0xC7 = s.regs.pmmLo.toNat / 2 ^ 24 ∧
      1546240 = max (3020 * (0xC7 % 8 + 1) * 4 ^ (0xC7 / 64)) 20000 ∧ 154 = 1546240 / 10000 := by decide

/-- Both a low clamp and a saturated tick count. -/
theorem witness_TimeoutSvcScalesPmmByteTwo :
    let s := identified 0x00FF0000 0
    let z := identified 0 0
    (s.regs.status.idValid = true ∧ 0xFF = s.regs.pmmLo.toNat / 2 ^ 16 % 256 ∧
      395837440 = 3020 * ((0xFF / 8 % 8 + 1) * (255 : BitVec 8).toNat + 0xFF % 8 + 1) * 4 ^ (0xFF / 64) ∧
      39583 = max (395837440 / 10000) 1) ∧
    (z.regs.status.idValid = true ∧ 0 = z.regs.pmmLo.toNat / 2 ^ 16 % 256 ∧
      3020 = 3020 * ((0 / 8 % 8 + 1) * (0 : BitVec 8).toNat + 0 % 8 + 1) * 4 ^ (0 / 64) ∧ 1 = max (3020 / 10000) 1) := by
  decide

theorem witness_TimeoutReadScalesPmmByteFive :
    let s := identified 0 0x0000AD00
    s.regs.status.idValid = true ∧ 0xAD = s.regs.pmmHi.toNat / 2 ^ 8 % 256 ∧
      65543616 = 3021 * ((0xAD / 8 % 8 + 1) * (225 : BitVec 8).toNat + 0xAD % 8 + 1) * 4 ^ (0xAD / 64) ∧
      6554 = max (65543616 / 10000) 1 := by decide

theorem witness_TimeoutsWithoutIdentityTrap :
    (∀ i ∈ ([.timeoutSys 9, .timeoutSvc 9, .timeoutRead 9] : List Instr),
      i = .timeoutSys 9 ∨ i = .timeoutSvc 9 ∨ i = .timeoutRead 9) ∧ State.reset.regs.status.idValid = false := by decide

theorem witness_SysAndSenseIgnoreTheCount :
    (∃ t, exec (.timeoutSys 255) (identified 5 6) = .next t ∧ t.regs.status.err = none) ∧
      (∃ t, exec (.timeoutSense 255) State.reset = .next t) := ⟨⟨_, rfl, rfl⟩, ⟨_, rfl⟩⟩

theorem witness_TimeoutEqualsTheSourceFormula :
    ∃ a b e c : ℚ, a = ((0xAD : Byte).toNat % 8 : Nat) ∧ b = ((0xAD : Byte).toNat / 8 % 8 : Nat) ∧
      c = ((225 : Byte).toNat : ℚ) ∧ e = (4 : ℚ) ^ ((0xAD : Byte).toNat / 64) :=
  ⟨_, _, _, _, rfl, rfl, rfl, rfl⟩

theorem witness_MnemonicsAssembleToTheirWords :
    255 ≤ 255 ∧ (Mnemonic.timeoutRead 255).wellFormed = true ∧ 255 < 256 := by decide

theorem witness_ProgramsAssembleLineByLine :
    (∀ l ∈ [HostLine.srst, .command (.timeoutSvc 255)], l.wellFormed = true) ∧
      (∃ l ∈ [HostLine.srst, .command (.timeoutSvc 256)], l.wellFormed = false) ∧ 255 < 256 ∧
      (HostLine.command (.timeoutSvc 256) ∈ [HostLine.srst, .command (.timeoutSvc 256)] ∨
        HostLine.command (.timeoutRead 256) ∈ [HostLine.srst, .command (.timeoutSvc 256)]) := by decide

theorem witness_PseudoInstructionsExpand : 2 < [0xD6, 0x2A, 0x01].length ∧ 290 < (List.replicate 291 0).length :=
  ⟨by decide, by rw [List.length_replicate]; decide⟩

end Sys2Proof.Tests
end

-- The open parameter START_MARKER (00_scope.md R10)
section

namespace Sys2Proof.Config

/-- The pair R10 forbids is replaced. -/
theorem constrainMarker_forbidden : constrainMarker (0x00, 0xFF) = defaultMarker :=
  if_pos rfl

/-- Every pair R10 allows is kept. -/
theorem constrainMarker_of_ne {m : Marker} (h : m ≠ (0x00, 0xFF)) : constrainMarker m = m :=
  if_neg h

theorem defaultMarker_ne_forbidden : defaultMarker ≠ (0x00, 0xFF) := by decide

/-- The constraint of R10, for every pair of bytes the hardware could be built with. -/
theorem constrainMarker_ne_forbidden (m : Marker) : constrainMarker m ≠ (0x00, 0xFF) := by
  by_cases h : m = (0x00, 0xFF)
  · rw [h, constrainMarker_forbidden]
    exact defaultMarker_ne_forbidden
  · rw [constrainMarker_of_ne h]
    exact h

/-- Settles O32: the marker is a constrained pair, so the open bytes `rawM0` and `rawM1` do not matter. -/
theorem startMarkerIsNeverTheForbiddenPair : Obligations.StartMarkerIsNeverTheForbiddenPair :=
  constrainMarker_ne_forbidden (rawM0, rawM1)

end Sys2Proof.Config
end

-- Host accesses of the registers, as steps (10_state.md R33 to R53, 20_memory.md R92 to R98, R109)
section

namespace Sys2Proof.Machine

/-! ## The address of a register -/

theorem regOffset_le (r : Reg) : regOffset r ≤ 0x54 := by
  cases r <;> decide

theorem regAddr_toNat (r : Reg) : (regAddr r).toNat = regOffset r :=
  Nat.mod_eq_of_lt (Nat.lt_of_le_of_lt (regOffset_le r) (by decide))

/-- Each register is reached at its offset. -/
theorem wordTarget_regAddr (r : Reg) : wordTarget (regAddr r) = .register r := by
  cases r <;> rfl

/-- A register is reached at its offset only. -/
theorem wordTarget_eq_register {a : Addr} {r : Reg} (h : wordTarget a = .register r) : a = regAddr r := by
  unfold wordTarget at h
  split at h
  · split at h
    · next r' hfind =>
      cases h
      have hoff : regOffset r = a.toNat := by simpa using List.find?_some hfind
      exact BitVec.eq_of_toNat_eq (by rw [regAddr_toNat, hoff])
    · cases h
  · cases h

/-- The aligned offsets of REG past the last register are reserved (10_state.md R53). -/
theorem wordTarget_reserved {a : Addr} (hlo : 0x58 ≤ a.toNat) (hhi : a.toNat ≤ 0xFC) (halign : a.toNat % 4 = 0) :
    wordTarget a = .reserved := by
  have hfind : allRegs.find? (fun r => regOffset r == a.toNat) = none := by
    refine List.find?_eq_none.mpr fun r _ heq => ?_
    have hoff : regOffset r = a.toNat := by simpa using heq
    have := regOffset_le r
    omega
  rw [wordTarget, if_pos ⟨by unfold regEnd; omega, halign⟩, hfind]

/-! ## Reads and writes as steps -/

/-- What a host read of a register gives depends on the registers alone. -/
theorem readReg_congr {s t : State} (h : t.regs = s.regs) (r : Reg) : readReg t r = readReg s r := by
  simp only [readReg, h]

theorem step_of_pending {s : State} {e : HostEvent} {rest : List HostEvent} (hp : s.pending = e :: rest) :
    step s = hostEvent e (dropEvent rest s) := by
  simp only [step, hp]

section
variable {s : State} {rest : List HostEvent} {a : Addr} {v : Word} {r : Reg}

/-- A 4-byte read of a register answers its word and changes nothing else. -/
theorem step_read32_register (ha : wordTarget a = .register r) (hp : s.pending = .access (.read32 a) :: rest) :
    step s = .next { s with pending := rest, observed := s.observed ++ [.word (readReg s r)] } := by
  have hread : readReg (dropEvent rest s) r = readReg s r := readReg_congr rfl r
  rw [step_of_pending hp, hostEvent, hostAccess, read32Response, ha, ← hread]
  rfl

/-- The same for a read put in front of whatever the host does next. -/
theorem step_pending_read32_register (s : State) (rest : List HostEvent) (ha : wordTarget a = .register r) :
    step { s with pending := .access (.read32 a) :: rest } =
      .next { s with pending := rest, observed := s.observed ++ [.word (readReg s r)] } :=
  step_read32_register ha rfl

/-- A 4-byte read of a reserved offset answers 0 and changes nothing else. -/
theorem step_read32_reserved (ha : wordTarget a = .reserved) (hp : s.pending = .access (.read32 a) :: rest) :
    step s = .next { s with pending := rest, observed := s.observed ++ [.word 0] } := by
  rw [step_of_pending hp, hostEvent, hostAccess, read32Response, ha]
  rfl

/-- A 4-byte write of a register does what its table says and is recorded as accepted. -/
theorem step_write32_register (ha : wordTarget a = .register r) (hp : s.pending = .access (.write32 a v) :: rest) :
    step s = mapNext (observe .accepted) (writeReg r v (dropEvent rest s)) := by
  rw [step_of_pending hp, hostEvent, hostAccess, write32, ha]

/-- A 4-byte write of a reserved offset is accepted and changes nothing. -/
theorem step_write32_reserved (ha : wordTarget a = .reserved) (hp : s.pending = .access (.write32 a v) :: rest) :
    step s = .next { s with pending := rest, observed := s.observed ++ [.accepted] } := by
  rw [step_of_pending hp, hostEvent, hostAccess, write32, ha]
  rfl

/-- A write of CMD runs the word as a command. -/
theorem step_write32_cmd (hp : s.pending = .access (.write32 0x00004 v) :: rest) :
    step s = mapNext (observe .accepted) (runCommand v (dropEvent rest s)) :=
  step_write32_register (r := .cmd) rfl hp

end

/-! ## What a written register holds -/

theorem extractLsb'_zero_toNat (v : Word) (k : Nat) : (v.extractLsb' 0 k).toNat = v.toNat % 2 ^ k := by
  rw [BitVec.extractLsb'_toNat, Nat.shiftRight_zero]

/-- RX_LEN's WARL rule as numbers (10_state.md R38). -/
theorem legalRxLen_toNat (v : Word) : (legalRxLen v).toNat = min v.toNat 290 := by
  simp only [legalRxLen, Config.rxMax, BitVec.toNat_ofNat]
  omega

/-- Settles O14: each write is a step of `storeReg`, and the stored field is the low bits of the word. -/
theorem writableRegistersStoreTheirBits : Obligations.WritableRegistersStoreTheirBits := by
  intro s rest v
  refine ⟨fun hp => ?_, fun hp => ?_, fun hp => ?_, fun hp => ?_, fun hp => ?_⟩
  · exact ⟨_, extractLsb'_zero_toNat v 16, step_write32_register (r := .txLen) rfl hp⟩
  · exact ⟨_, extractLsb'_zero_toNat v 2, step_write32_register (r := .csSrc) rfl hp⟩
  · exact ⟨_, extractLsb'_zero_toNat v 17, step_write32_register (r := .csOff) rfl hp⟩
  · exact ⟨_, extractLsb'_zero_toNat v 17, step_write32_register (r := .csLen) rfl hp⟩
  · exact ⟨_, extractLsb'_zero_toNat v 8, step_write32_register (r := .csExpect) rfl hp⟩

end Sys2Proof.Machine
end

-- Registers as the host reads them (10_state.md R33 to R52)
section

namespace Sys2Proof.Machine

/-! ## Words made of fields, lowest first -/

/-- The word is the number `m`, and its fields so far end below bit `n`. -/
def FieldsBelow (w : Word) (m n : Nat) : Prop := w.toNat = m ∧ m < 2 ^ n

/-- A field in the lowest bits reads as its own number. -/
theorem placeField_zero_toNat {k : Nat} (v : BitVec k) (h : k ≤ 32) : (placeField v 0).toNat = v.toNat := by
  rw [placeField_toNat v 0 (by omega), Nat.pow_zero, Nat.one_mul]

theorem fieldsBelow_lowest {k : Nat} (v : BitVec k) (h : k ≤ 32 := by decide) :
    FieldsBelow (placeField v 0) v.toNat k :=
  ⟨placeField_zero_toNat v h, v.isLt⟩

/-- A field above the ones before it adds its number at its bit. -/
theorem FieldsBelow.field {w : Word} {m n k : Nat} (hw : FieldsBelow w m n) (v : BitVec k) (lo : Nat)
    (hn : n ≤ lo := by decide) (hk : lo + k ≤ 32 := by decide) :
    FieldsBelow (w ||| placeField v lo) (m + 2 ^ lo * v.toNat) (lo + k) := by
  obtain ⟨hval, hlt⟩ := hw
  have hlo : m < 2 ^ lo := Nat.lt_of_lt_of_le hlt (Nat.pow_le_pow_right (by decide) hn)
  refine ⟨by rw [or_placeField_toNat w v lo (hval ▸ hlo) hk, hval], ?_⟩
  calc m + 2 ^ lo * v.toNat < 2 ^ lo + 2 ^ lo * v.toNat := Nat.add_lt_add_right hlo _
    _ = 2 ^ lo * (v.toNat + 1) := by rw [Nat.mul_add_one, Nat.add_comm]
    _ ≤ 2 ^ lo * 2 ^ k := Nat.mul_le_mul_left _ v.isLt
    _ = 2 ^ (lo + k) := (Nat.pow_add 2 lo k).symm

/-- A flag above the fields before it adds 1 at its bit when it is set. -/
theorem FieldsBelow.flag {w : Word} {m n : Nat} (hw : FieldsBelow w m n) (f : Bool) (lo : Nat)
    (hn : n ≤ lo := by decide) (hk : lo + 1 ≤ 32 := by decide) :
    FieldsBelow (w ||| placeFlag f lo) (m + 2 ^ lo * f.toNat) (lo + 1) := by
  simpa only [placeFlag, BitVec.toNat_ofBool] using hw.field (BitVec.ofBool f) lo hn hk

/-! ## The words of the registers with more than one field -/

/-- STATUS as a number (10_state.md R35). -/
theorem statusWord_toNat (r : Status) :
    (statusWord r).toNat =
      (errCode r.err).toNat + 2 ^ 4 * (cadenceCode r.cadence).toNat + 2 ^ 8 * r.seqErr.toNat
        + 2 ^ 16 * r.idValid.toNat + 2 ^ 17 * r.capHit.toNat + 2 ^ 24 * r.lastOp.toNat :=
  ((fieldsBelow_lowest (errCode r.err)).field (cadenceCode r.cadence) 4 |>.flag r.seqErr 8 |>.flag r.idValid 16
    |>.flag r.capHit 17 |>.field r.lastOp 24).1

/-- RX_STATUS as a number (10_state.md R39). -/
theorem rxStatusWord_toNat (r : RxStatus) :
    (rxStatusWord r).toNat =
      (frameKindCode r.kind).toNat + 2 ^ 2 * r.sigMatch.toNat + 2 ^ 3 * r.ackMatch.toNat + 2 ^ 4 * r.hdrOk.toNat
        + 2 ^ 5 * r.lcsOk.toNat + 2 ^ 6 * r.dcsOk.toNat + 2 ^ 7 * r.postOk.toNat + 2 ^ 8 * r.isShort.toNat
        + 2 ^ 9 * r.isLong.toNat + 2 ^ 10 * r.len37.toNat :=
  ((fieldsBelow_lowest (frameKindCode r.kind)).flag r.sigMatch 2 |>.flag r.ackMatch 3 |>.flag r.hdrOk 4
    |>.flag r.lcsOk 5 |>.flag r.dcsOk 6 |>.flag r.postOk 7 |>.flag r.isShort 8 |>.flag r.isLong 9
    |>.flag r.len37 10).1

/-- TO_COEF as a number (10_state.md R47). -/
theorem toCoefWord_toNat (r : ToCoef) :
    (toCoefWord r).toNat =
      r.a.toNat + 2 ^ 3 * r.b.toNat + 2 ^ 6 * r.e.toNat + 2 ^ 8 * r.pbyte.toNat + 2 ^ 16 * r.pidx.toNat
        + 2 ^ 20 * r.n.toNat + 2 ^ 28 * (timeoutKindCode r.kind).toNat :=
  ((fieldsBelow_lowest r.a).field r.b 3 |>.field r.e 6 |>.field r.pbyte 8 |>.field r.pidx 16 |>.field r.n 20
    |>.field (timeoutKindCode r.kind) 28).1

/-! ## The read obligations -/

/-- Settles O18: the word is `statusWord`, a sum of fields; the codes of ERR and CADENCE are read off case by case. -/
theorem statusReadsItsFieldsInPlace : Obligations.StatusReadsItsFieldsInPlace := by
  intro s rest hp
  refine ⟨_, step_read32_register (r := .status) rfl hp, (statusWord_toNat s.regs.status).trans ?_⟩
  congr 5
  · cases s.regs.status.err with
    | none => rfl
    | some e => cases e <;> rfl
  · cases s.regs.status.cadence <;> rfl

/-- Settles O19, register by register: the step of the read, and the word as a sum of its fields. -/
theorem receiveRegistersReadTheirFieldsInPlace : Obligations.ReceiveRegistersReadTheirFieldsInPlace := by
  intro s rest
  refine ⟨⟨step_pending_read32_register s rest rfl, (rxStatusWord_toNat s.regs.rxStatus).trans ?_⟩,
    ⟨step_pending_read32_register s rest rfl, ?_⟩, ⟨step_pending_read32_register s rest rfl, ?_⟩⟩
  · congr 9
    cases s.regs.rxStatus.kind <;> rfl
  · exact ((fieldsBelow_lowest s.regs.rxHdr.len).field s.regs.rxHdr.lcs 16).1
  · exact ((fieldsBelow_lowest s.regs.rxTrl.dcs).field s.regs.rxTrl.post 8 |>.field s.regs.rxTrl.payLen 16).1

/-- Settles O20, register by register: the step of the read, and the word as a sum of its fields. -/
theorem resultRegistersReadTheirFieldsInPlace : Obligations.ResultRegistersReadTheirFieldsInPlace := by
  intro s rest
  refine ⟨⟨step_pending_read32_register s rest rfl, ?_⟩,
    ⟨step_pending_read32_register s rest rfl, (toCoefWord_toNat s.regs.toCoef).trans ?_⟩,
    ⟨step_pending_read32_register s rest rfl, ?_⟩, ⟨step_pending_read32_register s rest rfl, ?_⟩,
    ⟨step_pending_read32_register s rest rfl, ?_⟩⟩
  · exact ((fieldsBelow_lowest s.regs.csResult.cs).field s.regs.csResult.sum 8 |>.flag s.regs.csResult.valid 16).1
  · congr 2
    cases s.regs.toCoef.kind <;> rfl
  · exact placeField_zero_toNat s.regs.toTq (by decide)
  · exact ((fieldsBelow_lowest s.regs.toMs.ms).flag s.regs.toMs.lowClamp 16).1
  · exact ((fieldsBelow_lowest s.regs.toTicks.ticks).flag s.regs.toTicks.sat 16).1

/-- The registers whose word is one number: CTRL, which reads 0, and those with a single field. -/
def oneFieldRegs : List Reg :=
  [.ctrl, .cmd, .txLen, .txfLen, .rxLen, .csSrc, .csOff, .csLen, .csExpect, .idmLo, .idmHi, .pmmLo, .pmmHi]

/-- The addresses and the values of those registers, written out (10_state.md section 2). -/
theorem oneFieldRegs_map_addr_value (s : State) :
    oneFieldRegs.map (fun r => (regAddr r, (readReg s r).toNat)) =
      [(0x00000, 0), (0x00004, s.regs.cmd.toNat), (0x0000C, s.regs.txLen.toNat),
        (0x00010, s.regs.txfLen.toNat), (0x00014, s.regs.rxLen.toNat), (0x00024, s.regs.csSrc.toNat),
        (0x00028, s.regs.csOff.toNat), (0x0002C, s.regs.csLen.toNat), (0x00030, s.regs.csExpect.toNat),
        (0x00048, s.regs.idmLo.toNat), (0x0004C, s.regs.idmHi.toNat), (0x00050, s.regs.pmmLo.toNat),
        (0x00054, s.regs.pmmHi.toNat)] := by
  simp [oneFieldRegs, readReg, placeField_zero_toNat, regAddr, addrOf, HostAddr.value, regOffset]

/-- Settles O56: an entry of the list is a register's address and word, and a read there is a step that answers it. -/
theorem oneFieldRegistersReadAtTheirOffsets : Obligations.OneFieldRegistersReadAtTheirOffsets := by
  intro s rest a v hmem
  rw [← oneFieldRegs_map_addr_value] at hmem
  obtain ⟨r, -, heq⟩ := List.mem_map.mp hmem
  cases heq
  exact ⟨readReg s r, rfl, step_pending_read32_register s rest (wordTarget_regAddr r)⟩

/-- Settles O15: the write is a step of `storeReg`, and RX_LEN reads back as the legal length. -/
theorem rxLenStoresAtMost290 : Obligations.RxLenStoresAtMost290 := by
  refine ⟨rfl, fun s rest v hp => ?_⟩
  have hread : (placeField (legalRxLen v) 0).toNat = min v.toNat 290 := by
    rw [placeField_zero_toNat _ (by decide), legalRxLen_toNat]
  exact ⟨_, legalRxLen_toNat v, _, step_write32_register (r := .rxLen) rfl hp, hread, rfl⟩

/-- Settles O16. -/
theorem reservedOffsetsReadZeroIgnoreWrites : Obligations.ReservedOffsetsReadZeroIgnoreWrites := by
  intro s rest a v hlo hhi halign
  have ha := wordTarget_reserved hlo hhi halign
  exact ⟨step_read32_reserved ha, step_write32_reserved ha⟩

/-! ## Reset -/

/-- At their reset values every register reads 0 (10_state.md R56). -/
theorem readReg_of_regs_reset {t : State} (h : t.regs = Regs.reset) (r : Reg) : readReg t r = 0 := by
  rw [readReg_congr (s := State.reset) h r]
  cases r <;> rfl

/-- Settles O21: each of the three states has `Regs.reset`, where every register reads 0. -/
theorem everyRegisterResetsToZero : Obligations.EveryRegisterResetsToZero := by
  intro t ht
  have hregs : t.regs = Regs.reset := by
    rcases ht with rfl | ⟨s, rfl⟩ | ⟨s, rfl⟩
    · rfl
    · exact softReset_regs s
    · exact powerOn_regs s
  exact ⟨readReg_of_regs_reset hregs, hregs, by rw [hregs]; rfl, by rw [hregs]; rfl, by rw [hregs]; rfl⟩

end Sys2Proof.Machine
end

-- What a command and what a step can do (40_control.md R150, 20_memory.md R109)
section

namespace Sys2Proof.Machine

/-! ## Commands -/

/-- Every next state a command can answer, one constructor per shape. -/
inductive CommandEffect (i : Instr) (s : State) : State → Prop where
  /-- NOP, and every command error: only STATUS.ERR is written. -/
  | errorOnly (e : Option CmdError) : CommandEffect i s (setErr e s)
  /-- ENCODE (42_frame_codec.md R183). -/
  | encodes (hi : i = .encode) :
      CommandEffect i s (setErr none (setCadence .awaitAck
        (writeFrame (commandFrame Config.startMarker (payloadOperand s)) (markSequence s))))
  /-- ENCACK (42_frame_codec.md R184). -/
  | acknowledges (hi : i = .encack) : CommandEffect i s (setErr none (writeFrame Config.ack6 s))
  /-- CLASSIFY (42_frame_codec.md R189). -/
  | classifies (hi : i = .classify) :
      CommandEffect i s (setErr none (setCadence (cadenceAfterClassify s.regs.status.cadence)
        (setRxResult
          (parseStatus Config.startMarker (classifiedKind s.regs.status.cadence (receivedFrame s)) (receivedFrame s))
          (parseHdr (receivedFrame s)) (parseTrl (receivedFrame s)) s)))
  /-- CSUM and CSCHK over a legal range (41_checksum.md R164, R165). -/
  | sums (bytes : List Byte) (ok : Bool) :
      CommandEffect i s (setErr none (setCsResult { cs := cs bytes, sum := sum8 bytes, valid := ok } s))
  /-- CAPTURE of a 37-byte response (43_tag_timeout.md R222). -/
  | captures (hi : i = .capture) (hlen : s.regs.rxLen.toNat = 37) (idmLo idmHi pmmLo pmmHi : Word) :
      CommandEffect i s (setErr none (setCapHit true (setIdentity idmLo idmHi pmmLo pmmHi s)))
  /-- CAPTURE of any other length (43_tag_timeout.md R222). -/
  | misses (hi : i = .capture) : CommandEffect i s (setErr none (setCapHit false s))
  /-- A TIMEOUT that completes (43_tag_timeout.md R227 to R230). -/
  | times (k : TimeoutKind) (p : Byte) (idx : BitVec 4) (nRec n : Byte) :
      CommandEffect i s (setErr none (writeTimeout k p idx nRec (timeoutTq k p n) s))

theorem CommandEffect.of_checksumCommand {i : Instr} {s t : State} {ok : List Byte → Bool}
    (h : checksumCommand ok s = .next t) : CommandEffect i s t := by
  obtain ⟨-, rfl⟩ | ⟨bytes, -, rfl⟩ := checksumCommand_cases h
  · exact .errorOnly (some .range)
  · exact .sums bytes (ok bytes)

theorem CommandEffect.of_identityTimeout {i : Instr} {s t : State} {k : TimeoutKind} {idx : Nat} {n : Byte}
    (h : identityTimeout k idx n s = .next t) : CommandEffect i s t := by
  obtain ⟨-, rfl⟩ | ⟨-, rfl⟩ := identityTimeout_cases h
  · exact .errorOnly (some .noid)
  · exact .times k (pmmByte s idx) (BitVec.ofNat 4 idx) n n

theorem commandEffect_of_exec {i : Instr} {s t : State} (h : exec i s = .next t) : CommandEffect i s t := by
  cases i with
  | nop => cases h; exact .errorOnly none
  | encode => cases h; exact .encodes rfl
  | encack => cases h; exact .acknowledges rfl
  | classify => cases h; exact .classifies rfl
  | csum => exact .of_checksumCommand h
  | cschk => exact .of_checksumCommand h
  | capture =>
    obtain ⟨hlen, rfl⟩ | ⟨-, rfl⟩ := execCapture_cases h
    · exact .captures rfl hlen _ _ _ _
    · exact .misses rfl
  | timeoutSys _ => exact .of_identityTimeout h
  | timeoutSvc n => exact .of_identityTimeout h
  | timeoutRead n => exact .of_identityTimeout h
  | timeoutSense _ => cases h; exact .times .sense 0 0xF 0 0

theorem checksumCommand_answers_next (ok : List Byte → Bool) (s : State) :
    ∃ t, checksumCommand ok s = .next t := by
  unfold checksumCommand
  split <;> exact ⟨_, rfl⟩

theorem identityTimeout_answers_next (k : TimeoutKind) (idx : Nat) (n : Byte) (s : State) :
    ∃ t, identityTimeout k idx n s = .next t := by
  unfold identityTimeout
  split <;> exact ⟨_, rfl⟩

/-- No command stops the block (60_exceptions.md R260). -/
theorem exec_answers_next (i : Instr) (s : State) : ∃ t, exec i s = .next t := by
  cases i with
  | nop | encode | encack | classify | timeoutSense _ => exact ⟨_, rfl⟩
  | csum | cschk => exact checksumCommand_answers_next _ s
  | capture =>
    show ∃ t, execCapture s = .next t
    unfold execCapture
    split <;> exact ⟨_, rfl⟩
  | timeoutSys _ | timeoutSvc n | timeoutRead n => exact identityTimeout_answers_next _ _ _ s

/-- A command leaves what the envelope wrote, the host's events and its record (40_control.md R150). -/
theorem CommandEffect.keeps_envelope {i : Instr} {s t : State} (h : CommandEffect i s t) :
    t.regs.cmd = s.regs.cmd ∧ t.regs.status.lastOp = s.regs.status.lastOp ∧ t.pending = s.pending ∧
      t.observed = s.observed ∧ t.powerOns = s.powerOns := by
  cases h <;> exact ⟨rfl, rfl, rfl, rfl, rfl⟩

/-- No command clears SEQERR (10_state.md R35). -/
theorem CommandEffect.keeps_seqErr {i : Instr} {s t : State} (h : CommandEffect i s t)
    (hs : s.regs.status.seqErr = true) : t.regs.status.seqErr = true := by
  cases h with
  | encodes _ => simp [hs]
  | _ => exact hs

/-! ## The envelope -/

theorem runCommand_of_decode_ok {w : Word} {i : Instr} (h : decode w = .ok i) (s : State) :
    runCommand w s = exec i (enterCommand w s) := by
  simp only [runCommand, h]

theorem runCommand_of_decode_err {w : Word} {e : CmdError} (h : decode w = .err e) (s : State) :
    runCommand w s = .next (setErr (some e) (enterCommand w s)) := by
  simp only [runCommand, h, raiseCmdError_next]

/-- Running a word has the effect of its command on the state the envelope entered, or only writes the decoder's
error. -/
theorem commandEffect_of_runCommand {w : Word} {s t : State} (h : runCommand w s = .next t) :
    (∃ e, t = setErr (some e) (enterCommand w s)) ∨
      ∃ i, decode w = .ok i ∧ CommandEffect i (enterCommand w s) t := by
  obtain ⟨e, -, rfl⟩ | ⟨i, hi, hexec⟩ := runCommand_cases h
  · exact .inl ⟨e, rfl⟩
  · exact .inr ⟨i, hi, commandEffect_of_exec hexec⟩

theorem runCommand_answers_next (w : Word) (s : State) : ∃ t, runCommand w s = .next t := by
  cases h : decode w with
  | ok i => rw [runCommand_of_decode_ok h]; exact exec_answers_next i _
  | err e => exact ⟨_, runCommand_of_decode_err h s⟩

/-- After a command word CMD holds it and LASTOP its low byte, whether or not it raised an error. -/
theorem runCommand_keeps_envelope {w : Word} {s t : State} (h : runCommand w s = .next t) :
    t.regs.cmd = w ∧ t.regs.status.lastOp = opField w ∧ t.pending = s.pending ∧ t.observed = s.observed ∧
      t.powerOns = s.powerOns := by
  obtain ⟨e, rfl⟩ | ⟨i, -, heffect⟩ := commandEffect_of_runCommand h
  · exact ⟨rfl, rfl, rfl, rfl, rfl⟩
  · exact heffect.keeps_envelope

theorem runCommand_keeps_seqErr {w : Word} {s t : State} (h : runCommand w s = .next t)
    (hs : s.regs.status.seqErr = true) : t.regs.status.seqErr = true := by
  obtain ⟨e, rfl⟩ | ⟨i, -, heffect⟩ := commandEffect_of_runCommand h
  · exact hs
  · exact heffect.keeps_seqErr hs

/-- No TIMEOUT row is CAPTURE. -/
theorem decodeTimeout_ne_capture (w : Word) : decodeTimeout w ≠ .ok .capture := by
  unfold decodeTimeout
  split <;> simp

/-- The one word that decodes to CAPTURE (30_encoding.md R123). -/
theorem eq_of_decode_capture {w : Word} (h : decode w = .ok .capture) : w = 0x00000006 := by
  obtain ⟨hop, hhigh⟩ : (opField w).toNat = 6 ∧ highField w = 0 := by
    unfold decode at h
    split_ifs at h with _ hrsvd
    split at h
    case h_7 hop => exact ⟨hop, of_not_not fun hne => hrsvd ⟨Nat.le_of_eq hop, hne⟩⟩
    case h_8 => exact absurd h (decodeTimeout_ne_capture w)
    all_goals cases h
  obtain ⟨hop', -⟩ := fields_toNat w
  have := (highField_eq_zero w).mp hhigh
  apply BitVec.eq_of_toNat_eq
  change w.toNat = 6
  omega

/-- Settles O6: a write of CMD is the envelope, which runs the decoded instruction or raises the decoder's error. -/
theorem stepRunsDecodedCommand : Obligations.StepRunsDecodedCommand := by
  intro s w i rest hp
  refine ⟨fun hok => ?_, fun e herr => ?_⟩
  · obtain ⟨t, ht⟩ := exec_answers_next i (enterCommand w (dropEvent rest s))
    refine ⟨t, ht, ?_⟩
    rw [step_write32_cmd hp, runCommand_of_decode_ok hok, ht]
    rfl
  · rw [step_write32_cmd hp, runCommand_of_decode_err herr]
    rfl

/-- Settles O25: the envelope's writes of CMD and LASTOP outlast every command. -/
theorem cmdReadsBackTheLastWord : Obligations.CmdReadsBackTheLastWord := by
  intro s rest w hp
  obtain ⟨t, ht⟩ := runCommand_answers_next w (dropEvent rest s)
  obtain ⟨hcmd, hlastOp, hpending, hobserved, hpowerOns⟩ := runCommand_keeps_envelope ht
  obtain ⟨hop, -⟩ := fields_toNat w
  refine ⟨observe .accepted t, by rw [step_write32_cmd hp, ht]; rfl, hcmd, ?_, hpending, ?_, hpowerOns⟩
  · rw [observe_regs, hlastOp, hop]
  · rw [observe_observed, hobserved, dropEvent_observed]

/-! ## Steps -/

/-- Every next state a step can answer, one constructor per shape, with the event that led to it. -/
inductive StepEffect (s : State) : State → Prop where
  /-- No host event is waiting. -/
  | waits (hp : s.pending = []) : StepEffect s s
  /-- Reads, refused accesses, and writes that are accepted and ignored: only the response is recorded. -/
  | observes {rest : List HostEvent} (a : HostAccess) (hp : s.pending = .access a :: rest) (r : BusResponse) :
      StepEffect s (observe r (dropEvent rest s))
  /-- A write to a register other than CMD and CTRL. -/
  | storesRegister {rest : List HostEvent} (r : Reg) (v : Word)
      (hp : s.pending = .access (.write32 (regAddr r) v) :: rest) :
      StepEffect s (observe .accepted (storeReg r v (dropEvent rest s)))
  /-- A write to a byte of RXBUF or TXPAY. -/
  | storesByte {rest : List HostEvent} (a : Addr) (v : Byte) (hp : s.pending = .access (.write8 a v) :: rest)
      (b : Buffer) (i : Nat) (ha : bufferAt a.toNat = some (b, i)) (hb : hostWritable b = true) :
      StepEffect s (observe .accepted (setBufByte b i v (dropEvent rest s)))
  /-- A write to CTRL with bit 0 set. -/
  | resets {rest : List HostEvent} (v : Word) (hp : s.pending = .access (.write32 0x00000 v) :: rest)
      (hv : v.toNat % 2 = 1) : StepEffect s (observe .accepted (softReset (dropEvent rest s)))
  /-- A write to CMD. -/
  | runs {rest : List HostEvent} (w : Word) (hp : s.pending = .access (.write32 0x00004 w) :: rest) {t : State}
      (ht : runCommand w (dropEvent rest s) = .next t) : StepEffect s (observe .accepted t)
  /-- A pulse of the reset input. -/
  | powersOn {rest : List HostEvent} (hp : s.pending = .powerOnReset :: rest) :
      StepEffect s (powerOn (dropEvent rest s))

/-- Bit 0 of a word as a number. -/
theorem toNat_mod_two_of_getLsbD_zero {v : Word} (h : v.getLsbD 0 = true) : v.toNat % 2 = 1 := by
  simpa [BitVec.getLsbD, Nat.testBit_zero] using h

theorem stepEffect_of_write32 {s t : State} {rest : List HostEvent} {a : Addr} {v : Word}
    (hp : s.pending = .access (.write32 a v) :: rest) (h : write32 a v (dropEvent rest s) = .next t) :
    StepEffect s t := by
  obtain ⟨r, u, ha, hu, rfl⟩ | ⟨-, rfl⟩ | ⟨-, rfl⟩ := write32_cases h
  · obtain rfl := wordTarget_eq_register ha
    obtain ⟨rfl, hrun⟩ | ⟨rfl, rfl⟩ | ⟨-, -, rfl⟩ := writeReg_cases hu
    · exact .runs v hp hrun
    · split
      · next hbit => exact .resets v hp (toNat_mod_two_of_getLsbD_zero hbit)
      · exact .observes _ hp .accepted
    · exact .storesRegister r v hp
  · exact .observes _ hp .accepted
  · exact .observes _ hp .refusedWrite

theorem stepEffect_of_step {s t : State} (h : step s = .next t) : StepEffect s t := by
  obtain ⟨hp, rfl⟩ | ⟨rest, a, hp, haccess⟩ | ⟨rest, hp, rfl⟩ := step_cases h
  · exact .waits hp
  · cases a with
    | read32 a => cases haccess; exact .observes _ hp _
    | read8 a => cases haccess; exact .observes _ hp _
    | write32 a v => exact stepEffect_of_write32 hp haccess
    | write8 a v =>
      cases haccess
      obtain ⟨b, i, ha, hb, hwrite⟩ | hwrite := write8_cases a v (dropEvent rest s)
      · rw [hwrite]; exact .storesByte a v hp b i ha hb
      · rw [hwrite]; exact .observes _ hp .refusedWrite
  · exact .powersOn hp

/-- A host write of a register other than CMD and CTRL leaves STATUS alone. -/
@[simp] theorem storeReg_status (r : Reg) (v : Word) (s : State) : (storeReg r v s).regs.status = s.regs.status := by
  cases r <;> rfl

/-- Settles O39, over the shapes of a step: only the two resets write SEQERR 0. -/
theorem seqErrIsClearedOnlyByReset : Obligations.SeqErrIsClearedOnlyByReset := by
  intro s t hstep hseq
  cases stepEffect_of_step hstep with
  | waits _ => exact .inl hseq
  | observes _ _ _ => exact .inl hseq
  | storesRegister r v _ => exact .inl (by simpa using hseq)
  | storesByte _ _ _ _ _ _ _ => exact .inl hseq
  | resets v hp hv => exact .inr (.inr ⟨v, _, hp, hv⟩)
  | runs w _ ht => exact .inl (by simpa using runCommand_keeps_seqErr ht hseq)
  | powersOn hp => exact .inr (.inl ⟨_, hp⟩)

/-! ## The identity -/

/-- Two states with the same IDm, PMm and ID_VALID (10_state.md R51, R52). -/
def SameIdentity (s t : State) : Prop :=
  t.regs.idmLo = s.regs.idmLo ∧ t.regs.idmHi = s.regs.idmHi ∧ t.regs.pmmLo = s.regs.pmmLo ∧
    t.regs.pmmHi = s.regs.pmmHi ∧ t.regs.status.idValid = s.regs.status.idValid

theorem SameIdentity.refl (s : State) : SameIdentity s s := ⟨rfl, rfl, rfl, rfl, rfl⟩

theorem storeReg_sameIdentity (r : Reg) (v : Word) (s : State) : SameIdentity s (storeReg r v s) := by
  cases r <;> exact .refl s

/-- A command keeps the identity, or it is a CAPTURE of a 37-byte response. -/
theorem CommandEffect.sameIdentity_or_capture {i : Instr} {s t : State} (h : CommandEffect i s t) :
    SameIdentity s t ∨ (i = .capture ∧ s.regs.rxLen.toNat = 37) := by
  cases h with
  | captures hi hlen _ _ _ _ => exact .inr ⟨hi, hlen⟩
  | _ => exact .inl (.refl s)

theorem runCommand_sameIdentity_or_capture {w : Word} {s t : State} (h : runCommand w s = .next t) :
    SameIdentity s t ∨ (w = 0x00000006 ∧ s.regs.rxLen.toNat = 37) := by
  obtain ⟨e, rfl⟩ | ⟨i, hdecode, heffect⟩ := commandEffect_of_runCommand h
  · exact .inl (.refl s)
  · refine heffect.sameIdentity_or_capture.imp id fun ⟨hi, hlen⟩ => ⟨?_, hlen⟩
    exact eq_of_decode_capture (hi ▸ hdecode)

/-- Settles O40, over the shapes of a step: a command word changes the identity only as a CAPTURE of 37 bytes. -/
theorem identityChangesOnlyByCaptureOrReset : Obligations.IdentityChangesOnlyByCaptureOrReset := by
  intro s t hstep
  cases stepEffect_of_step hstep with
  | waits _ => exact .inl (SameIdentity.refl s)
  | observes _ _ _ => exact .inl (SameIdentity.refl s)
  | storesRegister r v _ => exact .inl (storeReg_sameIdentity r v (dropEvent _ s))
  | storesByte _ _ _ _ _ _ _ => exact .inl (SameIdentity.refl s)
  | resets v hp hv => exact .inr (.inr (.inr ⟨v, _, hp, hv⟩))
  | runs w hp ht =>
    obtain hsame | ⟨rfl, hlen⟩ := runCommand_sameIdentity_or_capture ht
    · exact .inl hsame
    · exact .inr (.inl ⟨_, hp, hlen⟩)
  | powersOn hp => exact .inr (.inr (.inl ⟨_, hp⟩))

end Sys2Proof.Machine
end

-- The invariant of the block
section

namespace Sys2Proof.Machine

/-! ## What keeps the invariant, update by update -/

section
variable {s : State}

/-- The invariant speaks of the registers and the written bytes alone. -/
theorem blockInvariant_congr {t : State} (h : BlockInvariant s) (hregs : t.regs = s.regs) (hmem : t.mem = s.mem) :
    BlockInvariant t := by
  obtain ⟨regs, mem, powerOns, pending, observed⟩ := t
  cases hregs
  cases hmem
  exact { h with }

theorem blockInvariant_setErr (h : BlockInvariant s) (e : Option CmdError) : BlockInvariant (setErr e s) := { h with }

theorem blockInvariant_setCadence (h : BlockInvariant s) (c : Cadence) : BlockInvariant (setCadence c s) := { h with }

theorem blockInvariant_markSequence (h : BlockInvariant s) : BlockInvariant (markSequence s) := { h with }

theorem blockInvariant_enterCommand (h : BlockInvariant s) (w : Word) : BlockInvariant (enterCommand w s) :=
  { h with lastOp_eq := rfl }

/-- A frame that fits TXFRM (00_scope.md R8). -/
theorem blockInvariant_writeFrame (h : BlockInvariant s) {frame : List Byte} (hlen : frame.length ≤ 65545) :
    BlockInvariant (writeFrame frame s) :=
  { h with
    memory_canonical := memWf_memWriteAll frame s.mem _ h.memory_canonical
    memory_in_buffers := by
      refine memInBuffers_memWriteAll frame s.mem _ (fun a hlo hhi => ?_) h.memory_in_buffers
      obtain ⟨i, rfl⟩ := Nat.exists_eq_add_of_le hlo
      have hi : i < bufSize .txfrm := Nat.lt_of_lt_of_le (Nat.add_lt_add_iff_left.mp hhi) hlen
      have hat : bufferAt (bufAddr .txfrm 0 + i) = some (.txfrm, i) := bufferAt_bufAddr .txfrm i hi
      rw [hat]; rfl
    txfLen_le := Nat.le_trans (Nat.mod_le _ _) hlen }

theorem blockInvariant_setRxResult (h : BlockInvariant s) {st : RxStatus} {hdr : RxHdr} {trl : RxTrl}
    (hkind : st.kind ≠ .none) (hpay : trl.payLen.toNat ≤ 282) : BlockInvariant (setRxResult st hdr trl s) :=
  { h with payLen_le := hpay, kindNone_flags := fun hnone => absurd hnone hkind }

/-- The checksum of a sequence validates against its sum (41_checksum.md R162). -/
theorem sum8_add_cs_mod (bytes : List Byte) : ((sum8 bytes).toNat + (cs bytes).toNat) % 256 = 0 := by
  rw [sum8_toNat, cs_toNat]
  omega

theorem blockInvariant_setCsResult (h : BlockInvariant s) (bytes : List Byte) (ok : Bool) :
    BlockInvariant (setCsResult { cs := cs bytes, sum := sum8 bytes, valid := ok } s) :=
  { h with csResult_validates := sum8_add_cs_mod bytes }

theorem blockInvariant_setIdentity (h : BlockInvariant s) (idmLo idmHi pmmLo pmmHi : Word) :
    BlockInvariant (setIdentity idmLo idmHi pmmLo pmmHi s) :=
  { h with noIdentity := fun hno => (nomatch hno), capHit_idValid := fun _ => rfl }

theorem blockInvariant_setCapHit (h : BlockInvariant s) {hit : Bool}
    (hid : hit = true → s.regs.status.idValid = true) : BlockInvariant (setCapHit hit s) :=
  { h with capHit_idValid := hid }

/-- The results of a timeout no longer than the largest (10_state.md R47 to R50). -/
theorem blockInvariant_writeTimeout (h : BlockInvariant s) (k : TimeoutKind) (p : Byte) (idx : BitVec 4) (nRec : Byte)
    {tq : Nat} (htq : tq ≤ 395968512) : BlockInvariant (writeTimeout k p idx nRec tq s) := by
  obtain ⟨hval, hms, hclamp, hticks, hsat⟩ :=
    writeTimeout_numbers k p idx nRec tq s (Nat.lt_of_le_of_lt htq (by decide))
  refine { h with
    tq_le := by rw [hval]; exact htq
    coef_fields := coefs_toNat p
    timeout_agrees := .inr ⟨?_, ?_, ?_, ?_⟩ }
  · rw [hval, hms]
  · rw [hval, Bool.eq_iff_iff, hclamp, decide_eq_true_iff]
    omega
  · rw [hms, hticks]
  · rw [hms, Bool.eq_iff_iff, hsat, decide_eq_true_iff]

theorem blockInvariant_setBufByte (h : BlockInvariant s) {b : Buffer} {i : Nat} (hi : i < bufSize b) (v : Byte) :
    BlockInvariant (setBufByte b i v s) :=
  { h with
    memory_canonical := memWf_memWrite s.mem _ v h.memory_canonical
    memory_in_buffers :=
      memInBuffers_memWrite s.mem _ v (by rw [bufferAt_bufAddr b i hi]; rfl) h.memory_in_buffers }

theorem blockInvariant_storeReg (h : BlockInvariant s) (r : Reg) (v : Word) : BlockInvariant (storeReg r v s) := by
  cases r with
  | rxLen =>
    have hle : (legalRxLen v).toNat ≤ 290 := by rw [legalRxLen_toNat]; exact Nat.min_le_right _ _
    exact { h with rxLen_le := hle }
  | _ => exact { h with }

theorem blockInvariant_observe (h : BlockInvariant s) (r : BusResponse) : BlockInvariant (observe r s) :=
  blockInvariant_congr h rfl rfl

theorem blockInvariant_dropEvent (h : BlockInvariant s) (rest : List HostEvent) : BlockInvariant (dropEvent rest s) :=
  blockInvariant_congr h rfl rfl

end

/-! ## Reset -/

/-- Settles O9: a list without entries, and registers at 0. -/
theorem resetHasBlockInvariant : Obligations.ResetHasBlockInvariant := by
  constructor
  case memory_canonical => exact memWf_reset
  all_goals decide

theorem blockInvariant_softReset {s : State} (h : BlockInvariant s) : BlockInvariant (softReset s) :=
  { resetHasBlockInvariant with
    memory_canonical := h.memory_canonical
    memory_in_buffers := h.memory_in_buffers }

theorem blockInvariant_powerOn (s : State) : BlockInvariant (powerOn s) :=
  blockInvariant_congr resetHasBlockInvariant rfl rfl

/-! ## What the commands write is in range -/

/-- The units of a timeout are at most 8 · 255 + 8 (43_tag_timeout.md R232). -/
theorem countUnits_le (p n : Byte) : countUnits p n ≤ 2048 := by
  have ha := (coefA p).isLt
  have hb := (coefB p).isLt
  have hn := n.isLt
  calc countUnits p n = ((coefB p).toNat + 1) * n.toNat + (coefA p).toNat + 1 := rfl
    _ ≤ 8 * 255 + 7 + 1 := by gcongr <;> omega
    _ = 2048 := rfl

/-- A base time of at most 3021 scaled by at most 2048 units and `4 ^ 3` (43_tag_timeout.md R232). -/
theorem scaledTime_le {k units e : Nat} (hk : k ≤ 3021) (hu : units ≤ 2048) (he : e < 4) :
    scaledTime k units e ≤ 395968512 :=
  calc k * units * 4 ^ e ≤ 3021 * 2048 * 4 ^ 3 := by gcongr <;> omega
    _ = 395968512 := rfl

/-- Every timeout fits TO_TQ's range (43_tag_timeout.md R232). -/
theorem timeoutTq_le (k : TimeoutKind) (p n : Byte) : timeoutTq k p n ≤ 395968512 := by
  have ha := (coefA p).isLt
  have he := (coefE p).isLt
  cases k with
  | sys => exact max_le (scaledTime_le (by decide) (by omega) he) (by decide)
  | svc => exact scaledTime_le (by decide) (countUnits_le p n) he
  | read => exact scaledTime_le (by decide) (countUnits_le p n) he
  | sense => exact (by decide : Config.tqSense ≤ 395968512)

/-- CLASSIFY never reports the kind NONE (42_frame_codec.md R187). -/
theorem classifiedKind_ne_none (c : Cadence) (raw : List Byte) : classifiedKind c raw ≠ .none := by
  have hverdict : verdict raw ≠ .none := by
    unfold verdict
    split <;> simp
  cases c with
  | awaitAck => simp [classifiedKind]
  | awaitResp => exact hverdict
  | idle => exact hverdict

/-- The payload of a received frame of at most 290 bytes is at most 282 (10_state.md R41). -/
theorem parseTrl_payLen_le (raw : List Byte) (h : raw.length ≤ 290) : (parseTrl raw).payLen.toNat ≤ 282 := by
  rw [parseTrl_payLen raw (by omega)]
  omega

/-! ## Commands and steps -/

theorem CommandEffect.keeps_blockInvariant {i : Instr} {s t : State} (heffect : CommandEffect i s t)
    (h : BlockInvariant s) : BlockInvariant t := by
  cases heffect with
  | errorOnly e => exact blockInvariant_setErr h e
  | encodes _ =>
    have hlen : (commandFrame Config.startMarker (payloadOperand s)).length ≤ 65545 := by
      have := s.regs.txLen.isLt
      rw [commandFrame_length, payloadOperand_length]
      omega
    exact blockInvariant_setErr
      (blockInvariant_setCadence (blockInvariant_writeFrame (blockInvariant_markSequence h) hlen) _) _
  | acknowledges _ => exact blockInvariant_setErr (blockInvariant_writeFrame h (by decide)) _
  | classifies _ =>
    have hlen : (receivedFrame s).length ≤ 290 := by rw [receivedFrame_length]; exact h.rxLen_le
    exact blockInvariant_setErr (blockInvariant_setCadence
      (blockInvariant_setRxResult h (classifiedKind_ne_none _ _) (parseTrl_payLen_le _ hlen)) _) _
  | sums bytes ok => exact blockInvariant_setErr (blockInvariant_setCsResult h bytes ok) _
  | captures _ _ idmLo idmHi pmmLo pmmHi =>
    exact blockInvariant_setErr
      (blockInvariant_setCapHit (blockInvariant_setIdentity h idmLo idmHi pmmLo pmmHi) fun _ => rfl) _
  | misses _ => exact blockInvariant_setErr (blockInvariant_setCapHit (hit := false) h fun hmiss => nomatch hmiss) _
  | times k p idx nRec n =>
    exact blockInvariant_setErr (blockInvariant_writeTimeout h k p idx nRec (timeoutTq_le k p n)) _

theorem runCommand_keeps_blockInvariant {w : Word} {s t : State} (hrun : runCommand w s = .next t)
    (h : BlockInvariant s) : BlockInvariant t := by
  have henter := blockInvariant_enterCommand h w
  obtain ⟨e, rfl⟩ | ⟨i, -, heffect⟩ := commandEffect_of_runCommand hrun
  · exact blockInvariant_setErr henter (some e)
  · exact heffect.keeps_blockInvariant henter

/-- Settles O8, over the shapes of a step: what each one writes keeps every field of the invariant. -/
theorem stepKeepsBlockInvariant : Obligations.StepKeepsBlockInvariant := by
  intro s t h hstep
  have hdrop := blockInvariant_dropEvent h
  cases stepEffect_of_step hstep with
  | waits _ => exact h
  | observes _ _ r => exact blockInvariant_observe (hdrop _) r
  | storesRegister r v _ => exact blockInvariant_observe (blockInvariant_storeReg (hdrop _) r v) _
  | storesByte a v _ b i ha _ =>
    obtain ⟨-, hi⟩ := bufferAt_eq_some ha
    exact blockInvariant_observe (blockInvariant_setBufByte (hdrop _) hi v) _
  | resets _ _ _ => exact blockInvariant_observe (blockInvariant_softReset (hdrop _)) _
  | runs w _ ht => exact blockInvariant_observe (runCommand_keeps_blockInvariant ht (hdrop _)) _
  | powersOn _ => exact blockInvariant_powerOn _

end Sys2Proof.Machine
end

-- Host accesses of the whole address map, as steps (20_memory.md R91 to R98, R109)
section

namespace Sys2Proof.Machine

/-! ## What an address names -/

theorem inRegion_rxbuf (a : Nat) : inRegion .rxbuf a = true ↔ 0x01000 ≤ a ∧ a ≤ 0x01121 := by
  obtain ⟨hbase, hsize, -⟩ := region_bounds
  rw [inRegion_iff, hbase, hsize]
  omega

theorem inRegion_txpay (a : Nat) : inRegion .txpay a = true ↔ 0x20000 ≤ a ∧ a ≤ 0x2FFFE := by
  obtain ⟨-, -, hbase, hsize, -⟩ := region_bounds
  rw [inRegion_iff, hbase, hsize]
  omega

theorem inRegion_txfrm (a : Nat) : inRegion .txfrm a = true ↔ 0x40000 ≤ a ∧ a ≤ 0x50008 := by
  obtain ⟨-, -, -, -, hbase, hsize⟩ := region_bounds
  rw [inRegion_iff, hbase, hsize]
  omega

/-- An address names a byte of the buffer whose region it lies in. -/
theorem byteTarget_of_inRegion {a : Addr} {b : Buffer} (h : inRegion b a.toNat = true) :
    byteTarget a = some (b, a.toNat - bufBase b) := by
  obtain ⟨hlo, hhi⟩ := (inRegion_iff b a.toNat).mp h
  obtain ⟨i, hi⟩ := Nat.exists_eq_add_of_le hlo
  rw [byteTarget, hi, Nat.add_sub_cancel_left]
  exact bufferAt_bufAddr b i (by omega)

/-- The buffer byte an address names lies in that buffer's region, at the address. -/
theorem byteTarget_eq_some {a : Addr} {b : Buffer} {i : Nat} (h : byteTarget a = some (b, i)) :
    inRegion b a.toNat = true ∧ bufAddr b i = a.toNat := by
  obtain ⟨ha, hi⟩ := bufferAt_eq_some h
  refine ⟨(inRegion_iff b a.toNat).mpr ?_, ha.symm⟩
  rw [ha, bufAddr]
  omega

/-- An address in no buffer's region names no byte. -/
theorem byteTarget_eq_none {a : Addr} (h : ∀ b, inRegion b a.toNat ≠ true) : byteTarget a = none := by
  refine Option.eq_none_iff_forall_ne_some.mpr fun ⟨b, i⟩ hsome => ?_
  exact h b (byteTarget_eq_some hsome).1

/-- A 4-byte access outside REG or misaligned is refused (20_memory.md R92 to R94). -/
theorem wordTarget_refused {a : Addr} (h : 0x100 ≤ a.toNat ∨ a.toNat % 4 ≠ 0) : wordTarget a = .refused := by
  rw [wordTarget, if_neg]
  unfold regEnd
  omega

/-! ## What a read answers -/

/-- What a 4-byte read answers depends on the registers alone. -/
theorem read32Response_congr {s t : State} (h : t.regs = s.regs) (a : Addr) :
    read32Response t a = read32Response s a := by
  simp only [read32Response, readReg_congr h]

/-- What a 1-byte read answers depends on the written bytes and the power-on count alone. -/
theorem read8Response_congr {s t : State} (hm : t.mem = s.mem) (hp : t.powerOns = s.powerOns) (a : Addr) :
    read8Response t a = read8Response s a := by
  simp only [read8Response, bufByte, byteAt_congr hm hp]

/-- A 1-byte read in a buffer's region answers the byte held at the address. -/
theorem read8Response_of_inRegion {a : Addr} {b : Buffer} (s : State) (h : inRegion b a.toNat = true) :
    read8Response s a = .byte (byteAt s a.toNat) := by
  have ha := byteTarget_of_inRegion h
  obtain ⟨-, haddr⟩ := byteTarget_eq_some ha
  simp only [read8Response, ha, bufByte, haddr]

theorem read8Response_refused {a : Addr} (s : State) (h : ∀ b, inRegion b a.toNat ≠ true) :
    read8Response s a = .refusedRead 0 := by
  simp only [read8Response, byteTarget_eq_none h]

theorem read32Response_refused {a : Addr} (s : State) (h : 0x100 ≤ a.toNat ∨ a.toNat % 4 ≠ 0) :
    read32Response s a = .refusedRead 0 := by
  simp only [read32Response, wordTarget_refused h]

/-! ## Accesses as steps -/

section
variable {s : State} {rest : List HostEvent} {a : Addr}

/-- A 4-byte read records its response and changes nothing else, whatever the address. -/
theorem step_read32 (hp : s.pending = .access (.read32 a) :: rest) :
    step s = .next { s with pending := rest, observed := s.observed ++ [read32Response s a] } := by
  rw [step_of_pending hp, hostEvent, hostAccess, read32Response_congr (dropEvent_regs s rest)]
  rfl

/-- A 1-byte read records its response and changes nothing else, whatever the address. -/
theorem step_read8 (hp : s.pending = .access (.read8 a) :: rest) :
    step s = .next { s with pending := rest, observed := s.observed ++ [read8Response s a] } := by
  rw [step_of_pending hp, hostEvent, hostAccess,
    read8Response_congr (dropEvent_mem s rest) (dropEvent_powerOns s rest)]
  rfl

theorem step_write32_refused {v : Word} (ha : wordTarget a = .refused)
    (hp : s.pending = .access (.write32 a v) :: rest) :
    step s = .next { s with pending := rest, observed := s.observed ++ [.refusedWrite] } := by
  rw [step_of_pending hp, hostEvent, hostAccess, write32, ha]
  rfl

/-- A 1-byte write outside the buffers the host may write is refused (20_memory.md R93, R94). -/
theorem step_write8_refused {v : Byte} (ha : ∀ b, hostWritable b = true → inRegion b a.toNat ≠ true)
    (hp : s.pending = .access (.write8 a v) :: rest) :
    step s = .next { s with pending := rest, observed := s.observed ++ [.refusedWrite] } := by
  rw [step_of_pending hp, hostEvent, hostAccess]
  obtain ⟨b, i, hsome, hwritable, -⟩ | hrefused := write8_cases a v (dropEvent rest s)
  · exact absurd (byteTarget_eq_some hsome).1 (ha b hwritable)
  · rw [hrefused]
    rfl

/-- A 1-byte write in a buffer the host may write stores that byte. -/
theorem step_write8_accepted {v : Byte} {b : Buffer} {i : Nat} (ha : byteTarget a = some (b, i))
    (hb : hostWritable b = true) (hp : s.pending = .access (.write8 a v) :: rest) :
    step s = .next (observe .accepted (setBufByte b i v (dropEvent rest s))) := by
  rw [step_of_pending hp, hostEvent, hostAccess]
  simp only [write8, ha, hb, if_true]

end

/-! ## The bus obligations -/

/-- An address outside RXBUF and TXPAY is in no buffer the host may write. -/
theorem not_inRegion_of_hostWritable {a : Nat} (hrx : ¬ (0x01000 ≤ a ∧ a ≤ 0x01121))
    (htx : ¬ (0x20000 ≤ a ∧ a ≤ 0x2FFFE)) : ∀ b, hostWritable b = true → inRegion b a ≠ true
  | .rxbuf, _ => mt (inRegion_rxbuf a).mp hrx
  | .txpay, _ => mt (inRegion_txpay a).mp htx
  | .txfrm, h => nomatch h

/-- Settles O11, access by access: each address names nothing its access may reach. -/
theorem refusedAccessesChangeNothing : Obligations.RefusedAccessesChangeNothing := by
  intro s rest a v b
  refine ⟨fun hp ha => ?_, fun hp ha => ?_, fun hp hrx htx hfrm => ?_, fun hp hrx htx => ?_⟩
  · rw [step_read32 hp, read32Response_refused s ha]
  · exact step_write32_refused (wordTarget_refused ha) hp
  · have houtside : ∀ b, inRegion b a.toNat ≠ true
      | .rxbuf => mt (inRegion_rxbuf _).mp hrx
      | .txpay => mt (inRegion_txpay _).mp htx
      | .txfrm => mt (inRegion_txfrm _).mp hfrm
    rw [step_read8 hp, read8Response_refused s houtside]
  · exact step_write8_refused (not_inRegion_of_hostWritable hrx htx) hp

/-- A byte after a host write to its buffer: the written one at the address, every other as before. -/
theorem byteAt_after_write8 {a : Addr} {b : Buffer} {i : Nat} (ha : byteTarget a = some (b, i)) (v : Byte)
    (s : State) (rest : List HostEvent) (x : Nat) :
    byteAt (observe .accepted (setBufByte b i v (dropEvent rest s))) x =
      if x = a.toNat then v else byteAt s x := by
  obtain ⟨-, haddr⟩ := byteTarget_eq_some ha
  rw [byteAt_congr (observe_mem _ .accepted) (observe_powerOns _ .accepted), byteAt_setBufByte, haddr,
    byteAt_congr (dropEvent_mem s rest) (dropEvent_powerOns s rest)]

/-- Settles O12: the write is a step of `setBufByte` at the address, the read answers `byteAt` there. -/
theorem bufferAccessesReadAndWriteOneByte : Obligations.BufferAccessesReadAndWriteOneByte := by
  intro s rest a v
  refine ⟨fun hp hregion => ?_, fun hp hregion => ?_⟩
  · obtain ⟨b, hb, hin⟩ : ∃ b, hostWritable b = true ∧ inRegion b a.toNat = true := by
      rcases hregion with h | h
      · exact ⟨.rxbuf, rfl, (inRegion_rxbuf _).mpr h⟩
      · exact ⟨.txpay, rfl, (inRegion_txpay _).mpr h⟩
    have ha := byteTarget_of_inRegion hin
    have hbyte := byteAt_after_write8 ha v s rest
    refine ⟨_, step_write8_accepted ha hb hp, ?_, fun x hx => ?_, rfl⟩
    · rw [hbyte, if_pos rfl]
    · rw [hbyte, if_neg hx]
  · obtain ⟨b, hin⟩ : ∃ b, inRegion b a.toNat = true := by
      rcases hregion with h | h | h
      · exact ⟨.rxbuf, (inRegion_rxbuf _).mpr h⟩
      · exact ⟨.txpay, (inRegion_txpay _).mpr h⟩
      · exact ⟨.txfrm, (inRegion_txfrm _).mpr h⟩
    rw [step_read8 hp, read8Response_of_inRegion s hin]

/-- Settles O13: a read's response depends on nothing that the read before it changed. -/
theorem readsChangeNothingAndRepeat : Obligations.ReadsChangeNothingAndRepeat := by
  rintro s rest r ⟨a, rfl | rfl⟩ hp
  · refine ⟨read32Response s a, step_read32 hp, ?_⟩
    rw [step_read32 rfl, read32Response_congr (s := s) rfl, List.append_assoc]
    rfl
  · refine ⟨read8Response s a, step_read8 hp, ?_⟩
    rw [step_read8 rfl, read8Response_congr (s := s) rfl rfl, List.append_assoc]
    rfl

theorem mem_allRegs (r : Reg) : r ∈ allRegs := by
  cases r <;> decide

/-- The register map, written out (10_state.md section 2). -/
theorem allRegs_map_addr :
    allRegs.map (fun r => (regAddr r, r)) =
      [(0x00000, .ctrl), (0x00004, .cmd), (0x00008, .status), (0x0000C, .txLen), (0x00010, .txfLen),
        (0x00014, .rxLen), (0x00018, .rxStatus), (0x0001C, .rxHdr), (0x00020, .rxTrl), (0x00024, .csSrc),
        (0x00028, .csOff), (0x0002C, .csLen), (0x00030, .csExpect), (0x00034, .csResult), (0x00038, .toCoef),
        (0x0003C, .toTq), (0x00040, .toMs), (0x00044, .toTicks), (0x00048, .idmLo), (0x0004C, .idmHi),
        (0x00050, .pmmLo), (0x00054, .pmmHi)] := rfl

/-- Settles O55: the list is the register map, and a read at a register's address is a step that answers its word. -/
theorem everyRegisterReadsAtItsOffset : Obligations.EveryRegisterReadsAtItsOffset := by
  intro r
  refine ⟨regAddr r, ?_, fun s rest => step_pending_read32_register s rest (wordTarget_regAddr r)⟩
  rw [← allRegs_map_addr]
  exact List.mem_map_of_mem (mem_allRegs r)

/-- The registers a host write leaves alone (10_state.md section 2, 20_memory.md R98). -/
def readOnlyRegs : List Reg :=
  [.status, .txfLen, .rxStatus, .rxHdr, .rxTrl, .csResult, .toCoef, .toTq, .toMs, .toTicks, .idmLo, .idmHi, .pmmLo,
   .pmmHi]

theorem readOnlyRegs_map_offset :
    readOnlyRegs.map regOffset =
      [0x08, 0x10, 0x18, 0x1C, 0x20, 0x34, 0x38, 0x3C, 0x40, 0x44, 0x48, 0x4C, 0x50, 0x54] := rfl

theorem writeReg_readOnly {r : Reg} (h : r ∈ readOnlyRegs) (v : Word) (s : State) : writeReg r v s = .next s := by
  cases r with
  | ctrl | cmd | txLen | rxLen | csSrc | csOff | csLen | csExpect => exact absurd h (by decide)
  | _ => rfl

/-- Settles O17: each of the offsets is a read-only register's, and writing one is a step that stores nothing. -/
theorem readOnlyRegistersIgnoreWrites : Obligations.ReadOnlyRegistersIgnoreWrites := by
  intro s rest a v hmem hp
  rw [← readOnlyRegs_map_offset] at hmem
  obtain ⟨r, hr, hoff⟩ := List.mem_map.mp hmem
  obtain rfl : a = regAddr r := BitVec.eq_of_toNat_eq (by rw [regAddr_toNat, hoff])
  rw [step_write32_register (wordTarget_regAddr r) hp, writeReg_readOnly hr]
  rfl

end Sys2Proof.Machine
end

-- Who writes the buffers (20_memory.md R102)
section

namespace Sys2Proof.Machine

/-! ## The words of ENCODE and ENCACK -/

/-- A word that decodes without the TIMEOUT rows is the word of its instruction: bits 31:8 are clear
(30_encoding.md R123, R125). -/
theorem encode_of_decode_plain {w : Word} {i : Instr} (h : decode w = .ok i) (hplain : decodeTimeout w ≠ .ok i) :
    w = encode i := by
  obtain ⟨hop, -⟩ := fields_toNat w
  unfold decode at h
  split_ifs at h with _ hrsvd
  have hword : (opField w).toNat ≤ 6 → w.toNat = (opField w).toNat := fun hle => by
    have := (highField_eq_zero w).mp (of_not_not fun hne => hrsvd ⟨hle, hne⟩)
    omega
  split at h
  case h_8 => exact absurd h hplain
  all_goals
    next hcode =>
      cases h
      rw [hcode] at hword
      exact BitVec.eq_of_toNat_eq (hword (by decide))

/-- The instructions that write TXFRM have one word each (30_encoding.md R123). -/
theorem eq_of_decode_frameWriter {w : Word} {i : Instr} (h : decode w = .ok i) (hi : i = .encode ∨ i = .encack) :
    w = 0x00000001 ∨ w = 0x00000002 := by
  have hplain : decodeTimeout w ≠ .ok i := by
    unfold decodeTimeout
    rcases hi with rfl | rfl <;> split <;> simp
  obtain rfl := encode_of_decode_plain h hplain
  exact hi.imp (congrArg encode) (congrArg encode)

/-! ## Which bytes a command and a step change -/

/-- The address of a byte of TXFRM below TXF_LEN (20_memory.md R102). -/
def InWrittenFrame (t : State) (a : Nat) : Prop := 0x40000 ≤ a ∧ a < 0x40000 + t.regs.txfLen.toNat

/-- A frame that fits TXFRM changes bytes below the TXF_LEN written with it. -/
theorem inWrittenFrame_of_writeFrame {frame : List Byte} (hlen : frame.length ≤ 65545) {s : State} {a : Nat}
    (hne : byteAt (writeFrame frame s) a ≠ byteAt s a) : InWrittenFrame (writeFrame frame s) a := by
  have htxf : (writeFrame frame s).regs.txfLen.toNat = frame.length :=
    Nat.mod_eq_of_lt (Nat.lt_of_le_of_lt hlen (by decide))
  have hin : 0x40000 ≤ a ∧ a - 0x40000 < frame.length := by
    by_contra hout
    exact hne (by rw [byteAt_writeFrame, dif_neg hout])
  rw [InWrittenFrame, htxf]
  omega

/-- The frame ENCODE writes fits TXFRM (00_scope.md R8). -/
theorem encodedFrame_length_le (s : State) :
    (commandFrame Config.startMarker (payloadOperand s)).length ≤ 65545 := by
  have := s.regs.txLen.isLt
  rw [commandFrame_length, payloadOperand_length]
  omega

/-- The only commands that change a byte are ENCODE and ENCACK, inside the frame they write. -/
theorem CommandEffect.frameWriter_of_changed {i : Instr} {s t : State} (heffect : CommandEffect i s t) {a : Nat}
    (hne : byteAt t a ≠ byteAt s a) : (i = .encode ∨ i = .encack) ∧ InWrittenFrame t a := by
  cases heffect with
  | encodes hi => exact ⟨.inl hi, inWrittenFrame_of_writeFrame (s := markSequence s) (encodedFrame_length_le s) hne⟩
  | acknowledges hi => exact ⟨.inr hi, inWrittenFrame_of_writeFrame (by decide) hne⟩
  | _ => exact absurd rfl hne

theorem runCommand_changed {w : Word} {s t : State} (h : runCommand w s = .next t) {a : Nat}
    (hne : byteAt t a ≠ byteAt s a) : (w = 0x00000001 ∨ w = 0x00000002) ∧ InWrittenFrame t a := by
  obtain ⟨e, rfl⟩ | ⟨i, hdecode, heffect⟩ := commandEffect_of_runCommand h
  · exact absurd rfl hne
  · obtain ⟨hi, hin⟩ := heffect.frameWriter_of_changed hne
    exact ⟨eq_of_decode_frameWriter hdecode hi, hin⟩

theorem byteAt_storeReg (r : Reg) (v : Word) (s : State) (a : Nat) : byteAt (storeReg r v s) a = byteAt s a := by
  cases r <;> rfl

/-- The two ways a step other than a reset pulse changes a byte: a host write of it, in a buffer the host may write,
or a write to CMD of the word of ENCODE or ENCACK, for a byte of the frame written. -/
theorem step_changed {s t : State} (hstep : step s = .next t) (hpulse : ∀ rest, s.pending ≠ .powerOnReset :: rest)
    {a : Nat} (hne : byteAt t a ≠ byteAt s a) :
    (∃ x v rest b i, s.pending = .access (.write8 x v) :: rest ∧ x.toNat = a ∧ byteTarget x = some (b, i) ∧
      hostWritable b = true) ∨
    (∃ w rest, s.pending = .access (.write32 0x00004 w) :: rest ∧ (w = 0x00000001 ∨ w = 0x00000002) ∧
      InWrittenFrame t a) := by
  cases stepEffect_of_step hstep with
  | waits _ => exact absurd rfl hne
  | observes _ _ _ => exact absurd rfl hne
  | storesRegister r v _ => exact absurd (byteAt_storeReg r v (dropEvent _ s) a) hne
  | storesByte x v hp b i ha hb =>
    refine .inl ⟨x, v, _, b, i, hp, ?_, ha, hb⟩
    by_contra hother
    exact hne (by rw [byteAt_after_write8 ha, if_neg (Ne.symm hother)])
  | resets _ _ _ => exact absurd rfl hne
  | runs w hp ht => exact .inr ⟨w, _, hp, runCommand_changed ht hne⟩
  | powersOn hp => exact absurd hp (hpulse _)

/-! ## The obligation -/

/-- A changed byte below TXFRM is the host's. -/
theorem hostWrite_of_changed {s t : State} (hstep : step s = .next t)
    (hpulse : ∀ rest, s.pending ≠ .powerOnReset :: rest) {a : Nat} (ha : a < 0x40000)
    (hne : byteAt t a ≠ byteAt s a) : ∃ x v rest, s.pending = .access (.write8 x v) :: rest ∧ x.toNat = a := by
  obtain ⟨x, v, rest, -, -, hp, hx, -⟩ | ⟨-, -, -, -, hframe, -⟩ := step_changed hstep hpulse hne
  · exact ⟨x, v, rest, hp, hx⟩
  · exact absurd ha (Nat.not_lt.mpr hframe)

/-- An address of TXFRM is in no buffer the host may write. -/
theorem not_inRegion_hostWritable_of_txfrm {a : Nat} (ha : 0x40000 ≤ a) :
    ∀ b, hostWritable b = true → inRegion b a ≠ true :=
  not_inRegion_of_hostWritable (by omega) (by omega)

/-- A changed byte of TXFRM is in the frame ENCODE or ENCACK wrote. -/
theorem frameCommand_of_changed {s t : State} (hstep : step s = .next t)
    (hpulse : ∀ rest, s.pending ≠ .powerOnReset :: rest) {a : Nat} (ha : 0x40000 ≤ a)
    (hne : byteAt t a ≠ byteAt s a) :
    ∃ w rest, s.pending = .access (.write32 0x00004 w) :: rest ∧ (w = 0x00000001 ∨ w = 0x00000002) ∧
      InWrittenFrame t a := by
  obtain ⟨x, -, -, b, i, -, rfl, hsome, hb⟩ | hcommand := step_changed hstep hpulse hne
  · exact absurd (byteTarget_eq_some hsome).1 (not_inRegion_hostWritable_of_txfrm ha b hb)
  · exact hcommand

/-- Settles O41, over the two ways a step changes a byte; a host write to TXFRM is a step that is refused. -/
theorem buffersChangeOnlyByTheirWriters : Obligations.BuffersChangeOnlyByTheirWriters := by
  intro s t hstep hpulse
  refine ⟨fun i hi hne => ?_, fun i hi hne => ?_, fun i _ hne => ?_, fun a v rest hp ha _ => ?_⟩
  · exact hostWrite_of_changed (a := 0x01000 + i) hstep hpulse (by omega) hne
  · exact hostWrite_of_changed (a := 0x20000 + i) hstep hpulse (by omega) hne
  · obtain ⟨w, rest, hp, hw, -, hlt⟩ :=
      frameCommand_of_changed (a := 0x40000 + i) hstep hpulse (Nat.le_add_right _ _) hne
    exact ⟨w, rest, hp, hw, Nat.add_lt_add_iff_left.mp hlt⟩
  · rw [step_write8_refused (not_inRegion_hostWritable_of_txfrm ha) hp] at hstep
    cases hstep
    rfl

end Sys2Proof.Machine
end

-- The decoder and the opcode map (30_encoding.md R121 to R129)
section

namespace Sys2Proof

/-! ## The outcomes of the decoder -/

section
variable {w : Word}

/-- R124. -/
theorem decode_illegalOpcode (hop : 8 ≤ (opField w).toNat) : decode w = .err .illop :=
  if_pos hop

/-- R125, opcodes 0 to 6. -/
theorem decode_reservedBits (hop : (opField w).toNat ≤ 6) (hhigh : highField w ≠ 0) : decode w = .err .rsvd := by
  rw [decode, if_neg (by omega), if_pos ⟨hop, hhigh⟩]

/-- R125, opcode 7. -/
theorem decode_timeout_reservedBits (hop : (opField w).toNat = 7) (hrsv : rsvField w ≠ 0) :
    decode w = .err .rsvd := by
  rw [decode, if_neg (by omega), if_neg (by omega), if_pos ⟨hop, hrsv⟩]

/-- Opcode 7 without reserved bits is left to K (R129). -/
theorem decode_eq_decodeTimeout (hop : (opField w).toNat = 7) (hrsv : rsvField w = 0) :
    decode w = decodeTimeout w := by
  simp [decode, hop, hrsv]

/-- R126. -/
theorem decodeTimeout_illegalKind (hk : 4 ≤ (kField w).toNat) : decodeTimeout w = .err .kind := by
  unfold decodeTimeout
  split
  case h_5 => rfl
  all_goals omega

/-- The decoder raises no other error (R128). -/
theorem decode_eq_err {e : CmdError} (h : decode w = .err e) : e = .illop ∨ e = .rsvd ∨ e = .kind := by
  unfold decode at h
  split_ifs at h
  · cases h; exact .inl rfl
  · cases h; exact .inr (.inl rfl)
  · cases h; exact .inr (.inl rfl)
  · split at h
    case h_8 =>
      unfold decodeTimeout at h
      split at h
      case h_5 => cases h; exact .inr (.inr rfl)
      all_goals cases h
    all_goals cases h

end

/-! ## Words and instructions -/

theorem decode_timeoutWord (n : BitVec 8) (k : BitVec 4) :
    decode (commandWord 0x07 n k) = decodeTimeout (commandWord 0x07 n k) := by
  obtain ⟨hop, -, -, hrsv⟩ := fields_commandWord 0x07 n k
  exact decode_eq_decodeTimeout (congrArg BitVec.toNat hop) hrsv

/-- Settles O1: the words without an operand are evaluated, the TIMEOUT words go by their fields K and N. -/
theorem decodeInvertsEncode : Obligations.DecodeInvertsEncode := by
  intro i
  cases i with
  | timeoutSys n | timeoutSvc n | timeoutRead n | timeoutSense n =>
    obtain ⟨-, hn, hk, -⟩ := fields_commandWord 0x07 n _
    rw [encode, decode_timeoutWord, decodeTimeout, hn, hk]
    rfl
  | _ => rfl

/-- A word without reserved bits is put together from its fields. -/
theorem eq_commandWord {w : Word} (hrsv : rsvField w = 0) :
    w = commandWord (opField w) (nField w) (kField w) := by
  obtain ⟨hop, hn, hk, -⟩ := fields_toNat w
  have := (rsvField_eq_zero w).mp hrsv
  apply BitVec.eq_of_toNat_eq
  rw [commandWord_toNat]
  omega

/-- The instruction K selects has N for its count (R129). -/
theorem encode_of_decodeTimeout {w : Word} {i : Instr} (h : decodeTimeout w = .ok i) :
    encode i = commandWord 0x07 (nField w) (kField w) := by
  unfold decodeTimeout at h
  split at h
  case h_5 => cases h
  all_goals
    next hk =>
      cases h
      exact congrArg (commandWord 0x07 (nField w)) (BitVec.eq_of_toNat_eq hk.symm)

/-- A word decoded by its K has opcode 7 and no reserved bits (R125). -/
theorem fields_of_decode_timeout {w : Word} {i : Instr} (h : decode w = .ok i) (hk : decodeTimeout w = .ok i) :
    opField w = 0x07 ∧ rsvField w = 0 := by
  have hcode : opField (encode i) = 0x07 := by
    rw [encode_of_decodeTimeout hk]
    exact (fields_commandWord 0x07 (nField w) (kField w)).1
  unfold decode at h
  split_ifs at h with _ _ hrsvd
  split at h
  case h_8 =>
    -- below 8 and, by the rows above it in the match, none of 0 to 6
    have hop : (opField w).toNat = 7 := by grind
    exact ⟨BitVec.eq_of_toNat_eq hop, of_not_not fun hne => hrsvd ⟨hop, hne⟩⟩
  all_goals
    cases h
    exact absurd hcode (by decide)

/-- Settles O2: the word of a TIMEOUT is put together from its fields, any other accepted word is its opcode. -/
theorem encodeInvertsDecode : Obligations.EncodeInvertsDecode := by
  intro w i h
  by_cases hk : decodeTimeout w = .ok i
  · obtain ⟨hop, hrsv⟩ := fields_of_decode_timeout h hk
    rw [encode_of_decodeTimeout hk, ← hop]
    exact (eq_commandWord hrsv).symm
  · exact (Machine.encode_of_decode_plain h hk).symm

/-- Settles O5: each of the words is the word of its instruction, and the last one has no legal kind. -/
theorem writtenOutWordsDecode : Obligations.WrittenOutWordsDecode :=
  ⟨decodeInvertsEncode .encode, decodeInvertsEncode .cschk, decodeInvertsEncode .capture,
    decodeInvertsEncode (.timeoutSys 255), decodeInvertsEncode (.timeoutSvc 4), decodeInvertsEncode (.timeoutRead 3),
    decodeInvertsEncode (.timeoutSense 0), rfl⟩

/-! ## Rows of the opcode map -/

/-- Each instruction's word is selected by its row (R123). -/
theorem selected_by_row : ∀ i, Laws.TableRow.Statement i
  | .nop => Laws.TableRow.nop
  | .encode => Laws.TableRow.encode
  | .encack => Laws.TableRow.encack
  | .classify => Laws.TableRow.classify
  | .csum => Laws.TableRow.csum
  | .cschk => Laws.TableRow.cschk
  | .capture => Laws.TableRow.capture
  | .timeoutSys n => Laws.TableRow.timeoutSys n
  | .timeoutSvc n => Laws.TableRow.timeoutSvc n
  | .timeoutRead n => Laws.TableRow.timeoutRead n
  | .timeoutSense n => Laws.TableRow.timeoutSense n

/-- A row is known by its mnemonic. -/
theorem row_eq_of_mnemonic :
    ∀ r ∈ opcodeTable, ∀ r' ∈ opcodeTable, r'.mnemonic = r.mnemonic → r' = r := by
  decide

/-- The mask of the TIMEOUT rows keeps every field but N (R123). -/
theorem eq_commandWord_of_timeoutMask {w : Word} {k : BitVec 4} (h : w &&& 0xFFFF00FF = commandWord 0x07 0 k) :
    w = commandWord 0x07 (nField w) k := by
  obtain ⟨hop, -, hk, hrsv⟩ := fields_commandWord 0x07 0 k
  rw [← h] at hop hk hrsv
  have hop' : opField (w &&& 0xFFFF00FF) = opField w := by
    rw [opField, BitVec.extractLsb'_and]; exact BitVec.and_allOnes
  have hk' : kField (w &&& 0xFFFF00FF) = kField w := by
    rw [kField, BitVec.extractLsb'_and]; exact BitVec.and_allOnes
  have hrsv' : rsvField (w &&& 0xFFFF00FF) = rsvField w := by
    rw [rsvField, BitVec.extractLsb'_and]; exact BitVec.and_allOnes
  rw [← hop, ← hk, hop', hk']
  exact eq_commandWord (hrsv' ▸ hrsv)

/-- The mask of the other rows keeps every bit (R123). -/
theorem eq_of_fullMask {w p : Word} (h : w &&& 0xFFFFFFFF = p) : w = p :=
  BitVec.and_allOnes.symm.trans h

/-- A word a row selects is the word of an instruction of that row. -/
theorem exists_instr_of_selects {r : OpRow} (hr : r ∈ opcodeTable) {w : Word} (hw : r.selects w = true) :
    ∃ i, w = encode i ∧ i.mnemonic = r.mnemonic := by
  have hw : w &&& r.mask = r.pattern := beq_iff_eq.mp hw
  simp only [opcodeTable, List.mem_cons, List.not_mem_nil, or_false] at hr
  rcases hr with rfl | rfl | rfl | rfl | rfl | rfl | rfl | rfl | rfl | rfl | rfl
  · exact ⟨.nop, eq_of_fullMask hw, rfl⟩
  · exact ⟨.encode, eq_of_fullMask hw, rfl⟩
  · exact ⟨.encack, eq_of_fullMask hw, rfl⟩
  · exact ⟨.classify, eq_of_fullMask hw, rfl⟩
  · exact ⟨.csum, eq_of_fullMask hw, rfl⟩
  · exact ⟨.cschk, eq_of_fullMask hw, rfl⟩
  · exact ⟨.capture, eq_of_fullMask hw, rfl⟩
  · exact ⟨.timeoutSys (nField w), eq_commandWord_of_timeoutMask hw, rfl⟩
  · exact ⟨.timeoutSvc (nField w), eq_commandWord_of_timeoutMask hw, rfl⟩
  · exact ⟨.timeoutRead (nField w), eq_commandWord_of_timeoutMask hw, rfl⟩
  · exact ⟨.timeoutSense (nField w), eq_commandWord_of_timeoutMask hw, rfl⟩

/-- A row that selects a word is the row of the instruction the word decodes to. -/
theorem decode_of_selects {r : OpRow} (hr : r ∈ opcodeTable) {w : Word} (hw : r.selects w = true) :
    ∃ i, decode w = .ok i ∧ i.mnemonic = r.mnemonic := by
  obtain ⟨i, rfl, hi⟩ := exists_instr_of_selects hr hw
  exact ⟨i, decodeInvertsEncode i, hi⟩

/-- Settles O3: an accepted word is the word of an instruction, whose row selects it; a row that selects a word is its
instruction's, so there is no other, and none for a word that raises an error. -/
theorem everyWordHasOneOutcome : Obligations.EveryWordHasOneOutcome := by
  intro w
  cases hdecode : decode w with
  | ok i =>
    obtain ⟨r, hr, hmnemonic, hselects⟩ := selected_by_row i
    rw [encodeInvertsDecode w i hdecode] at hselects
    refine .inl ⟨r, hr, hselects, fun r' hr' hselects' => ?_, i, rfl, hmnemonic.symm⟩
    obtain ⟨i', hdecode', hmnemonic'⟩ := decode_of_selects hr' hselects'
    obtain rfl : i = i' := by simpa [hdecode] using hdecode'
    exact row_eq_of_mnemonic r hr r' hr' (by rw [hmnemonic, hmnemonic'])
  | err e =>
    refine .inr ⟨fun r hr => ?_, e, rfl, decode_eq_err hdecode⟩
    by_contra hselects
    obtain ⟨i, hdecode', -⟩ := decode_of_selects hr (by simpa using hselects)
    rw [hdecode] at hdecode'
    cases hdecode'

end Sys2Proof
end

-- Command words that raise an error, and counts that are ignored (30_encoding.md R124 to R127)
section

namespace Sys2Proof.Machine

/-- Settles O4: each clause is an error of the decoder, stated over the fields as numbers, and the envelope takes it. -/
theorem illegalWordsRaiseTheirError : Obligations.IllegalWordsRaiseTheirError := by
  intro w s
  obtain ⟨hop, -, hk, -⟩ := fields_toNat w
  rw [← hop]
  refine ⟨fun h8 => ?_, fun h6 hhigh => ?_, fun h7 hrsv => ?_, fun h7 hrsv h4 => ?_⟩
  · exact runCommand_of_decode_err (decode_illegalOpcode h8) s
  · exact runCommand_of_decode_err (decode_reservedBits h6 (mt (highField_eq_zero w).mp hhigh)) s
  · exact runCommand_of_decode_err (decode_timeout_reservedBits h7 (mt (rsvField_eq_zero w).mp hrsv)) s
  · have hdecode : decode w = .err .kind := by
      rw [decode_eq_decodeTimeout h7 ((rsvField_eq_zero w).mpr hrsv)]
      exact decodeTimeout_illegalKind (hk ▸ h4)
    exact runCommand_of_decode_err hdecode s

/-- A TIMEOUT word written with its count in bits 15:8 (30_encoding.md R121, R131). -/
theorem ofNat_eq_timeoutWord (n : BitVec 8) (k : BitVec 4) :
    BitVec.ofNat 32 (0x00000007 + k.toNat * 2 ^ 16 + n.toNat * 256) = commandWord 0x07 n k := by
  apply BitVec.eq_of_toNat_eq
  have hn := n.isLt
  have hk := k.isLt
  rw [commandWord_toNat, BitVec.toNat_ofNat, show (0x07 : BitVec 8).toNat = 7 from rfl]
  omega

/-- A TIMEOUT.SYS that raises no error has recorded the count 0 (R127). -/
theorem execTimeoutSys_count {s t : State} (h : execTimeoutSys s = .next t) (herr : t.regs.status.err = none) :
    t.regs.toCoef.n = 0 := by
  obtain ⟨-, rfl⟩ | ⟨-, rfl⟩ := identityTimeout_cases h
  · cases herr
  · rfl

/-- Settles O50: the words are those of the instructions, and neither meaning takes the count. -/
theorem sysAndSenseIgnoreTheCount : Obligations.SysAndSenseIgnoreTheCount := by
  intro n m s
  refine ⟨⟨_, ?_, rfl⟩, ⟨_, ?_, rfl⟩, rfl, rfl, fun t h herr => execTimeoutSys_count h herr, fun t h => ?_⟩
  · exact (congrArg decode (ofNat_eq_timeoutWord n 0)).trans (decodeInvertsEncode (.timeoutSys n))
  · exact (congrArg decode (ofNat_eq_timeoutWord n 3)).trans (decodeInvertsEncode (.timeoutSense n))
  · cases h
    exact ⟨rfl, rfl⟩

end Sys2Proof.Machine
end

-- What a command reads (30_encoding.md R122, 70_reset_and_hazards.md R293)
section

namespace Sys2Proof.Machine

/-! ## Operands read alike -/

section
variable {s s' : State}

/-- A range is read alike where each of its bytes is. -/
theorem bufRange_eq_of_bytes {b : Buffer} {off len : Nat}
    (h : ∀ k < len, bufByte s' b (off + k) = bufByte s b (off + k)) :
    bufRange s' b off len = bufRange s b off len :=
  List.map_congr_left fun k hk => h k (List.mem_range.mp hk)

/-- The same for a range that starts a buffer. -/
theorem bufRange_zero_eq_of_bytes {b : Buffer} {len : Nat} (h : ∀ k < len, bufByte s' b k = bufByte s b k) :
    bufRange s' b 0 len = bufRange s b 0 len :=
  bufRange_eq_of_bytes fun k hk => by rw [Nat.zero_add, h k hk]

/-- Four bytes of a range whose bytes are read alike are packed alike. -/
theorem packRxbuf_eq_of_bytes {off len : Nat}
    (h : ∀ k < len, bufByte s' .rxbuf (off + k) = bufByte s .rxbuf (off + k)) (j : Nat) (hj : j + 3 < len) :
    packRxbuf s' (off + j) = packRxbuf s (off + j) := by
  simp only [packRxbuf, Nat.add_assoc]
  rw [h j (by omega), h (j + 1) (by omega), h (j + 2) (by omega), h (j + 3) hj]

/-- The checksum range is read alike where its bytes are, if it is legal. -/
theorem checksumRange_eq_of_bytes (hregs : s'.regs = s.regs)
    (h : ∀ b, checksumSource s.regs.csSrc = some b → s.regs.csOff.toNat + s.regs.csLen.toNat ≤ bufSize b →
      ∀ k < s.regs.csLen.toNat, bufByte s' b (s.regs.csOff.toNat + k) = bufByte s b (s.regs.csOff.toNat + k)) :
    checksumRange s' = checksumRange s := by
  unfold checksumRange
  rw [hregs]
  split
  · next b hb =>
    split
    · next hle => rw [bufRange_eq_of_bytes (h b hb hle)]
    · rfl
  · rfl

end

/-- The two states agree on what the command reads of the buffers (30_encoding.md R122). -/
def SameInputs (i : Instr) (s s' : State) : Prop :=
  match i with
  | .encode => payloadOperand s' = payloadOperand s
  | .classify => receivedFrame s' = receivedFrame s
  | .csum | .cschk => checksumRange s' = checksumRange s
  | .capture => s.regs.rxLen.toNat = 37 → ∀ k < 16, bufByte s' .rxbuf (17 + k) = bufByte s .rxbuf (17 + k)
  | .nop | .encack | .timeoutSys _ | .timeoutSvc _ | .timeoutRead _ | .timeoutSense _ => True

/-! ## What a command leaves -/

/-- The state after a command that left the registers `r` and wrote `frame` at the start of TXFRM, which is nothing for
all commands but ENCODE and ENCACK. -/
def afterCommand (r : Regs) (frame : List Byte) (s : State) : State := { writeFrame frame s with regs := r }

/-- A byte is the frame's, or what it was. -/
theorem byteAt_afterCommand (r : Regs) (frame : List Byte) (s : State) (a : Nat) :
    byteAt (afterCommand r frame s) a =
      if h : 0x40000 ≤ a ∧ a - 0x40000 < frame.length then frame[a - 0x40000] else byteAt s a := by
  rw [← byteAt_writeFrame]
  exact byteAt_congr rfl rfl a

/-- From either state the command leaves the same registers and writes the same frame. -/
def SameEffect (s s' : State) (o o' : Host.Outcome State Fault Refusal) : Prop :=
  ∃ r frame, o = .next (afterCommand r frame s) ∧ o' = .next (afterCommand r frame s')

section
variable {s s' t t' : State}

theorem SameEffect.of_frame {frame : List Byte} (ht : t = afterCommand t.regs frame s)
    (ht' : t' = afterCommand t'.regs frame s') (hregs : t'.regs = t.regs) : SameEffect s s' (.next t) (.next t') :=
  ⟨t.regs, frame, congrArg _ ht, by rw [← hregs]; exact congrArg _ ht'⟩

/-- A command that writes no frame. -/
theorem SameEffect.of_registers (ht : t = { s with regs := t.regs }) (ht' : t' = { s' with regs := t'.regs })
    (hregs : t'.regs = t.regs) : SameEffect s s' (.next t) (.next t') :=
  .of_frame (frame := []) ht ht' hregs

end

section
variable {s s' : State} (hregs : s'.regs = s.regs)
include hregs

/-- NOP, and every command error, write STATUS.ERR alone. -/
theorem sameEffect_setErr (e : Option CmdError) : SameEffect s s' (.next (setErr e s)) (.next (setErr e s')) :=
  .of_registers rfl rfl (by simp only [setErr, hregs])

theorem sameEffect_execEncode (h : payloadOperand s' = payloadOperand s) :
    SameEffect s s' (execEncode s) (execEncode s') := by
  unfold execEncode
  rw [h]
  exact .of_frame rfl rfl (by simp only [setErr, setCadence, writeFrame, markSequence, hregs])

theorem sameEffect_execEncack : SameEffect s s' (execEncack s) (execEncack s') :=
  .of_frame (t := setErr none (writeFrame Config.ack6 s)) (t' := setErr none (writeFrame Config.ack6 s')) rfl rfl
    (by simp only [setErr, writeFrame, hregs])

theorem sameEffect_execClassify (h : receivedFrame s' = receivedFrame s) :
    SameEffect s s' (execClassify s) (execClassify s') := by
  unfold execClassify
  rw [h, hregs]
  exact .of_registers rfl rfl (by simp only [setErr, setCadence, setRxResult, hregs])

theorem sameEffect_checksumCommand (ok : List Byte → Bool) (h : checksumRange s' = checksumRange s) :
    SameEffect s s' (checksumCommand ok s) (checksumCommand ok s') := by
  unfold checksumCommand
  rw [h]
  split
  · exact sameEffect_setErr hregs _
  · exact .of_registers rfl rfl (by simp only [setErr, setCsResult, hregs])

theorem sameEffect_execCschk (h : checksumRange s' = checksumRange s) :
    SameEffect s s' (execCschk s) (execCschk s') := by
  unfold execCschk
  rw [hregs]
  exact sameEffect_checksumCommand hregs _ h

theorem sameEffect_execCapture
    (h : s.regs.rxLen.toNat = 37 → ∀ k < 16, bufByte s' .rxbuf (17 + k) = bufByte s .rxbuf (17 + k)) :
    SameEffect s s' (execCapture s) (execCapture s') := by
  unfold execCapture
  rw [hregs]
  split
  · next hlen =>
    have hpack := packRxbuf_eq_of_bytes (h hlen)
    have hidmLo : packRxbuf s' idmOffset = packRxbuf s idmOffset := hpack 0 (by decide)
    have hidmHi : packRxbuf s' (idmOffset + 4) = packRxbuf s (idmOffset + 4) := hpack 4 (by decide)
    have hpmmLo : packRxbuf s' pmmOffset = packRxbuf s pmmOffset := hpack 8 (by decide)
    have hpmmHi : packRxbuf s' (pmmOffset + 4) = packRxbuf s (pmmOffset + 4) := hpack 12 (by decide)
    rw [hidmLo, hidmHi, hpmmLo, hpmmHi]
    exact .of_registers rfl rfl (by simp only [setErr, setCapHit, setIdentity, hregs])
  · exact .of_registers rfl rfl (by simp only [setErr, setCapHit, hregs])

theorem sameEffect_identityTimeout (k : TimeoutKind) (idx : Nat) (n : Byte) :
    SameEffect s s' (identityTimeout k idx n s) (identityTimeout k idx n s') := by
  have hbyte : pmmByte s' idx = pmmByte s idx := by simp only [pmmByte, hregs]
  unfold identityTimeout
  rw [hregs, hbyte]
  split
  · exact .of_registers rfl rfl (by simp only [setErr, writeTimeout, setTimeout, hregs])
  · exact sameEffect_setErr hregs _

theorem sameEffect_execTimeoutSense : SameEffect s s' (execTimeoutSense s) (execTimeoutSense s') := by
  unfold execTimeoutSense
  exact .of_registers rfl rfl (by simp only [setErr, writeTimeout, setTimeout, hregs])

/-- A command depends on the registers and on what it reads of the buffers alone. -/
theorem sameEffect_exec {i : Instr} (h : SameInputs i s s') : SameEffect s s' (exec i s) (exec i s') := by
  cases i with
  | nop => exact sameEffect_setErr hregs none
  | encode => exact sameEffect_execEncode hregs h
  | encack => exact sameEffect_execEncack hregs
  | classify => exact sameEffect_execClassify hregs h
  | csum => exact sameEffect_checksumCommand hregs _ h
  | cschk => exact sameEffect_execCschk hregs h
  | capture => exact sameEffect_execCapture hregs h
  | timeoutSys _ | timeoutSvc n | timeoutRead n => exact sameEffect_identityTimeout hregs _ _ _
  | timeoutSense _ => exact sameEffect_execTimeoutSense hregs

end

/-! ## Inputs the host has set -/

/-- The same block, powered on another time. -/
def withPowerOns (k : Nat) (s : State) : State := { s with powerOns := k }

/-- A byte written since power-on does not depend on the draws of that power-on. -/
theorem bufByte_withPowerOns {s : State} {b : Buffer} {i : Nat} (h : isWritten s b i = true) (k : Nat) :
    bufByte (withPowerOns k s) b i = bufByte s b i := by
  obtain ⟨v, hv⟩ := Option.isSome_iff_exists.mp h
  simp only [bufByte, byteAt, withPowerOns, hv]

theorem bufByte_withPowerOns_of_range {s : State} {b : Buffer} {off len : Nat}
    (h : rangeWritten s b off len = true) (k : Nat) :
    ∀ j < len, bufByte (withPowerOns k s) b (off + j) = bufByte s b (off + j) := fun j hj =>
  bufByte_withPowerOns (List.all_eq_true.mp h j (List.mem_range.mpr hj)) k

/-- What CSUM and CSCHK read, when it is set, does not depend on the draws. -/
theorem checksumRange_withPowerOns {s : State} (h : inputsSet .csum s = true) (k : Nat) :
    checksumRange (withPowerOns k s) = checksumRange s := by
  refine checksumRange_eq_of_bytes rfl fun b hb hle => ?_
  simp only [inputsSet, hb, Bool.or_eq_true, decide_eq_true_eq] at h
  exact bufByte_withPowerOns_of_range (h.resolve_left (Nat.not_lt.mpr hle)) k

theorem sameInputs_withPowerOns {i : Instr} {s : State} (h : inputsSet i s = true) (k : Nat) :
    SameInputs i s (withPowerOns k s) := by
  cases i with
  | encode => exact bufRange_eq_of_bytes (bufByte_withPowerOns_of_range h k)
  | classify => exact bufRange_eq_of_bytes (bufByte_withPowerOns_of_range h k)
  | csum | cschk => exact checksumRange_withPowerOns h k
  | capture =>
    intro hlen
    simp only [inputsSet, Bool.or_eq_true, decide_eq_true_eq] at h
    exact bufByte_withPowerOns_of_range (h.resolve_left fun hne => hne hlen) k
  | _ => trivial

/-! ## The obligation -/

/-- The codes of CS_SRC with their buffers and sizes (10_state.md R42, 20_memory.md R91). -/
theorem checksumSource_cases {src : BitVec 2} {b : Buffer} (h : checksumSource src = some b) :
    (src = 0 ∧ b = .txpay ∧ bufSize b = 65535) ∨ (src = 1 ∧ b = .rxbuf ∧ bufSize b = 290) ∨
      (src = 2 ∧ b = .txfrm ∧ bufSize b = 65545) := by
  unfold checksumSource at h
  split at h
  · next hsrc => cases h; exact .inl ⟨BitVec.eq_of_toNat_eq hsrc, rfl, rfl⟩
  · next hsrc => cases h; exact .inr (.inl ⟨BitVec.eq_of_toNat_eq hsrc, rfl, rfl⟩)
  · next hsrc => cases h; exact .inr (.inr ⟨BitVec.eq_of_toNat_eq hsrc, rfl, rfl⟩)
  · cases h

/-- Settles O42: states that agree on a command's inputs see the same effect of it, and the draws of a power-on do not
reach inputs that have been set. -/
theorem freeBytesDoNotReachCommandsWithInputsSet : Obligations.FreeBytesDoNotReachCommandsWithInputsSet := by
  refine ⟨fun i s s' hregs hencode hclassify hcapture hsum => ?_, fun i s k h => ?_⟩
  · have hinputs : SameInputs i s s' := by
      have hrange (hi : i = .csum ∨ i = .cschk) : checksumRange s' = checksumRange s :=
        checksumRange_eq_of_bytes hregs fun b hb => hsum hi b (bufSize b) (checksumSource_cases hb)
      cases i with
      | encode =>
        rw [SameInputs, payloadOperand, hregs]
        exact bufRange_zero_eq_of_bytes (hencode rfl)
      | classify =>
        rw [SameInputs, receivedFrame, hregs]
        exact bufRange_zero_eq_of_bytes (hclassify rfl)
      | csum => exact hrange (.inl rfl)
      | cschk => exact hrange (.inr rfl)
      | capture => exact hcapture rfl
      | _ => trivial
    obtain ⟨r, frame, ht, ht'⟩ := sameEffect_exec hregs hinputs
    refine ⟨_, _, ht, ht', rfl, fun a => ?_, rfl, rfl⟩
    rw [byteAt_afterCommand, byteAt_afterCommand]
    split
    · exact .inl rfl
    · exact .inr ⟨rfl, rfl⟩
  · have hregs : (withPowerOns k s).regs = s.regs := rfl
    obtain ⟨r, frame, ht, ht'⟩ := sameEffect_exec hregs (sameInputs_withPowerOns h k)
    exact ⟨_, ht, ht'⟩

end Sys2Proof.Machine
end

-- The assembler (30_encoding.md R130 to R132)
section

namespace Sys2Proof.Machine

/-! ## Mnemonics -/

/-- A mnemonic is one write of its word to CMD (R131). -/
theorem expandLine_command (m : Mnemonic) :
    expandLine (.command m) = [.write32 0x00004 (BitVec.ofNat 32 (mnemonicWord m))] := rfl

theorem exists_count {n : Nat} (h : n ≤ 255) : ∃ c : BitVec 8, n = c.toNat :=
  ⟨BitVec.ofNat 8 n, (Nat.mod_eq_of_lt (by omega)).symm⟩

/-- The tabled word of an accepted mnemonic is the word of its instruction (R131). -/
theorem mnemonicWord_eq_encode {m : Mnemonic} (h : m.wellFormed = true) :
    BitVec.ofNat 32 (mnemonicWord m) = encode (mnemonicInstr m) := by
  cases m with
  | timeoutSvc n =>
    obtain ⟨c, rfl⟩ := exists_count (of_decide_eq_true h)
    rw [mnemonicInstr, BitVec.ofNat_toNat, BitVec.setWidth_eq]
    exact ofNat_eq_timeoutWord c 1
  | timeoutRead n =>
    obtain ⟨c, rfl⟩ := exists_count (of_decide_eq_true h)
    rw [mnemonicInstr, BitVec.ofNat_toNat, BitVec.setWidth_eq]
    exact ofNat_eq_timeoutWord c 2
  | _ => rfl

/-- A count above 255 makes a TIMEOUT.SVC or TIMEOUT.READ line ill-formed (R131). -/
theorem timeout_count_refused {n : Nat} (h : 255 < n) :
    (HostLine.command (.timeoutSvc n)).wellFormed = false ∧
      (HostLine.command (.timeoutRead n)).wellFormed = false :=
  ⟨decide_eq_false (Nat.not_le.mpr h), decide_eq_false (Nat.not_le.mpr h)⟩

/-- Settles O53: a mnemonic expands to its instruction's word, which the decoder reads back. -/
theorem mnemonicsAssembleToTheirWords : Obligations.MnemonicsAssembleToTheirWords := by
  refine ⟨rfl, rfl, rfl, rfl, rfl, rfl, rfl, rfl, rfl, fun n hn => ⟨?_, ?_⟩, fun m hm => ?_,
    fun n hn => timeout_count_refused hn⟩
  · exact ⟨_, expandLine_command (.timeoutSvc n), Nat.mod_eq_of_lt (by simp only [mnemonicWord]; omega)⟩
  · exact ⟨_, expandLine_command (.timeoutRead n), Nat.mod_eq_of_lt (by simp only [mnemonicWord]; omega)⟩
  · refine ⟨_, expandLine_command m, ?_⟩
    rw [mnemonicWord_eq_encode hm]
    exact decodeInvertsEncode (mnemonicInstr m)

/-! ## Pseudo-instructions -/

@[simp] theorem writeBytes_length (b : Buffer) (i : Nat) (bs : List Nat) : (writeBytes b i bs).length = bs.length := by
  induction bs generalizing i with
  | nil => rfl
  | cons v rest ih => simp [writeBytes, ih]

/-- The `j`-th write stores the `j`-th byte, `j` addresses after the first. -/
theorem writeBytes_getElem? (b : Buffer) (i : Nat) (bs : List Nat) {j : Nat} (h : j < bs.length) :
    (writeBytes b i bs)[j]? = some (.write8 (addrOf (.inBuffer b (i + j))) (BitVec.ofNat 8 bs[j])) := by
  induction bs generalizing i j with
  | nil => cases h
  | cons v rest ih =>
    cases j with
    | zero => rfl
    | succ j =>
      simpa [writeBytes, Nat.add_assoc, Nat.add_comm 1] using ih (i + 1) (Nat.lt_of_succ_lt_succ h)

/-- The shape LOADTX and LOADRX share: the bytes from index 0 on, then their number (R132). -/
theorem load_expansion (b : Buffer) (r : Reg) (bs : List Nat) :
    (writeBytes b 0 bs ++ [writeRegister r bs.length]).length = bs.length + 1 ∧
    (∀ (i : Nat) (h : i < bs.length), (writeBytes b 0 bs ++ [writeRegister r bs.length])[i]? =
      some (.write8 (BitVec.ofNat 20 (bufBase b + i)) (BitVec.ofNat 8 bs[i]))) ∧
    (writeBytes b 0 bs ++ [writeRegister r bs.length])[bs.length]? =
      some (.write32 (regAddr r) (BitVec.ofNat 32 bs.length)) := by
  refine ⟨by simp, fun i h => ?_, ?_⟩
  · rw [List.getElem?_append_left (by simpa using h), writeBytes_getElem? b 0 bs h, Nat.zero_add]
    rfl
  · rw [List.getElem?_append_right (by simp), writeBytes_length, Nat.sub_self]
    rfl

/-- More bytes than RXBUF holds make a LOADRX ill-formed (R132). -/
theorem loadRx_tooLong_refused {bs : List Nat} (h : 290 < bs.length) : (HostLine.loadRx bs).wellFormed = false := by
  rw [HostLine.wellFormed, Config.rxMax, decide_eq_false (Nat.not_le.mpr h), Bool.and_false]

/-- Settles O54: the two loads by their shared shape, the other lines as the table writes them. -/
theorem pseudoInstructionsExpand : Obligations.PseudoInstructionsExpand := by
  refine ⟨fun bs => ?_, fun _ _ _ => rfl, fun _ _ => ⟨rfl, rfl, rfl⟩, rfl⟩
  obtain ⟨htxLength, htxBytes, htxCount⟩ := load_expansion .txpay .txLen bs
  obtain ⟨hrxLength, hrxBytes, hrxCount⟩ := load_expansion .rxbuf .rxLen bs
  exact ⟨htxLength, htxBytes, htxCount, hrxLength, hrxBytes, hrxCount, loadRx_tooLong_refused⟩

/-! ## Programs -/

theorem assemble_of_wellFormed {ls : List HostLine} (h : ∀ l ∈ ls, l.wellFormed = true) :
    assemble ls = some (ls.flatMap expandLine) := by
  induction ls with
  | nil => rfl
  | cons l rest ih =>
    obtain ⟨hl, hrest⟩ := List.forall_mem_cons.mp h
    rw [assemble, if_pos hl, ih hrest]
    rfl

theorem assemble_of_illFormed {ls : List HostLine} {l : HostLine} (hmem : l ∈ ls) (hl : l.wellFormed = false) :
    assemble ls = none := by
  induction ls with
  | nil => cases hmem
  | cons l' rest ih =>
    rw [assemble]
    split
    · next hl' =>
      obtain rfl | hrest := List.mem_cons.mp hmem
      · rw [hl] at hl'; cases hl'
      · rw [ih hrest]; rfl
    · rfl

/-- Settles O57: by induction on the lines; a count above 255 is an ill-formed line. -/
theorem programsAssembleLineByLine : Obligations.ProgramsAssembleLineByLine := by
  refine ⟨fun ls h => assemble_of_wellFormed h, fun ls ⟨l, hmem, hl⟩ => assemble_of_illFormed hmem hl,
    fun n ls hn hmem => ?_⟩
  obtain ⟨hsvc, hread⟩ := timeout_count_refused hn
  obtain hmem | hmem := hmem
  · exact assemble_of_illFormed hmem hsvc
  · exact assemble_of_illFormed hmem hread

end Sys2Proof.Machine
end

-- NOP and its word (40_control.md R150, R151)
section

namespace Sys2Proof.Machine

/-- NOP is `skip`, so all that remains is the command's completion (R151). -/
theorem exec_nop_next (s : State) : exec .nop s = .next (setErr none s) :=
  completeCommand_next s

/-- The word 0 is NOP's (30_encoding.md R123). -/
theorem decode_zero : decode 0x00000000 = .ok .nop := decodeInvertsEncode .nop

/-- Settles O26: NOP completes in the state it is run in, which for its word is the state the envelope entered. -/
theorem nopOnlyClearsTheError : Obligations.NopOnlyClearsTheError := by
  refine fun s => ⟨exec_nop_next s, ?_⟩
  calc runCommand 0x00000000 s
    _ = exec .nop (enterCommand 0x00000000 s) := runCommand_of_decode_ok decode_zero s
    _ = .next (setErr none (enterCommand 0x00000000 s)) := exec_nop_next _

end Sys2Proof.Machine
end

-- The checksum unit (41_checksum.md R160 to R165)
section

namespace Sys2Proof.Machine

/-! ## The checksum as a remainder -/

/-- The model's own form of the checksum, as an integer: the floor remainder of 256 minus the sum (R161). -/
theorem cs_toInt (s : List Byte) : ((cs s).toNat : Int) = (256 - (byteSum s : Int)) % 256 := by
  rw [cs_toNat]
  omega

/-- Settles O27: the three forms differ from each other by multiples of 256. -/
theorem checksumIsTheFloorRemainder : Obligations.ChecksumIsTheFloorRemainder := by
  refine ⟨fun s => ⟨sum8_toNat s, cs_toInt s, ?_, ?_⟩, rfl, rfl⟩
  · calc ((cs s).toNat : Int)
      _ = (256 - (byteSum s : Int)) % 256 := cs_toInt s
      _ = (256 - ((byteSum s % 256 : Nat) : Int)) % 256 := by omega
      _ = (256 - ((sum8 s).toNat : Int)) % 256 := by rw [sum8_toNat]
  · calc ((cs s).toNat : Int)
      _ = (256 - (byteSum s : Int)) % 256 := cs_toInt s
      _ = (-(byteSum s : Int)) % 256 := by omega

/-! ## Validation -/

/-- Two bytes that bring the same sum to 0 are congruent modulo 256, and a byte is its own remainder (R162). -/
theorem sum8_add_mod_eq_zero_iff (s : List Byte) (c : Byte) :
    ((sum8 s).toNat + c.toNat) % 256 = 0 ↔ c = cs s := by
  constructor
  · intro hc
    have hcs := sum8_add_cs_mod s
    exact BitVec.eq_of_toNat_eq (by omega)
  · rintro rfl
    exact sum8_add_cs_mod s

theorem validates_iff_eq_cs (s : List Byte) (c : Byte) : validates s c = true ↔ c = cs s :=
  beq_iff_eq.trans (sum8_add_mod_eq_zero_iff s c)

/-- Settles O28. -/
theorem onlyTheChecksumValidates : Obligations.OnlyTheChecksumValidates :=
  fun s c => ⟨sum8_add_mod_eq_zero_iff s c, validates_iff_eq_cs s c⟩

/-! ## The range and the commands -/

section
variable {s : State}

/-- With a buffer selected the bounds alone decide (R163). -/
theorem checksumRange_of_source {b : Buffer} (h : checksumSource s.regs.csSrc = some b) :
    checksumRange s = if s.regs.csOff.toNat + s.regs.csLen.toNat ≤ bufSize b then
      some (bufRange s b s.regs.csOff.toNat s.regs.csLen.toNat) else none := by
  rw [checksumRange, h]

theorem checksumRange_of_no_source (h : checksumSource s.regs.csSrc = none) : checksumRange s = none := by
  rw [checksumRange, h]

theorem checksumRange_of_overrun {b : Buffer} (h : checksumSource s.regs.csSrc = some b)
    (hlt : bufSize b < s.regs.csOff.toNat + s.regs.csLen.toNat) : checksumRange s = none := by
  rw [checksumRange_of_source h, if_neg (Nat.not_le.mpr hlt)]

/-- The codes of CS_SRC with the bases and sizes of their buffers (10_state.md R42, 20_memory.md R91). -/
theorem exists_checksumSource {src : BitVec 2} {base size : Nat}
    (h : (src = 0 ∧ base = 0x20000 ∧ size = 65535) ∨ (src = 1 ∧ base = 0x01000 ∧ size = 290) ∨
      (src = 2 ∧ base = 0x40000 ∧ size = 65545)) :
    ∃ b, checksumSource src = some b ∧ base = bufBase b ∧ size = bufSize b := by
  obtain ⟨rfl, rfl, rfl⟩ | ⟨rfl, rfl, rfl⟩ | ⟨rfl, rfl, rfl⟩ := h
  · exact ⟨.txpay, rfl, rfl, rfl⟩
  · exact ⟨.rxbuf, rfl, rfl, rfl⟩
  · exact ⟨.txfrm, rfl, rfl, rfl⟩

/-- A checksum command over an illegal range (R163). -/
theorem checksumCommand_of_range_none (ok : List Byte → Bool) (h : checksumRange s = none) :
    checksumCommand ok s = .next (setErr (some .range) s) := by
  rw [checksumCommand, h]
  exact raiseCmdError_next .range s

/-- A checksum command over a legal range (R164, R165). -/
theorem checksumCommand_of_range_some (ok : List Byte → Bool) {bytes : List Byte}
    (h : checksumRange s = some bytes) :
    checksumCommand ok s =
      .next (setErr none (setCsResult { cs := cs bytes, sum := sum8 bytes, valid := ok bytes } s)) := by
  rw [checksumCommand, h]
  exact completeCommand_next _

/-- The sum of a buffer range, its bytes taken by their bus addresses. -/
theorem sum8_bufRange_toNat (b : Buffer) (off len : Nat) :
    (sum8 (bufRange s b off len)).toNat =
      (∑ i ∈ Finset.range len, (byteAt s (bufBase b + off + i)).toNat) % 256 := by
  rw [sum8_toNat, byteSum_bufRange]
  simp only [bufByte, bufAddr, Nat.add_assoc]

/-- What both checksum commands report over a legal range: the flag is `ok` of the bytes whose checksum is reported. -/
theorem checksumCommand_reports (ok : List Byte → Bool) {base size : Nat}
    (hsrc : (s.regs.csSrc = 0 ∧ base = 0x20000 ∧ size = 65535) ∨ (s.regs.csSrc = 1 ∧ base = 0x01000 ∧ size = 290) ∨
      (s.regs.csSrc = 2 ∧ base = 0x40000 ∧ size = 65545))
    (hle : s.regs.csOff.toNat + s.regs.csLen.toNat ≤ size) :
    ∃ (r : CsResult) (bytes : List Byte),
      checksumCommand ok s = .next (setErr none (setCsResult r s)) ∧
      r.sum.toNat =
        (∑ i ∈ Finset.range s.regs.csLen.toNat, (byteAt s (base + s.regs.csOff.toNat + i)).toNat) % 256 ∧
      (r.sum.toNat + r.cs.toNat) % 256 = 0 ∧ r.cs = cs bytes ∧ r.valid = ok bytes := by
  obtain ⟨b, hb, rfl, rfl⟩ := exists_checksumSource hsrc
  have hrange := (checksumRange_of_source hb).trans (if_pos hle)
  exact ⟨_, _, checksumCommand_of_range_some ok hrange, sum8_bufRange_toNat b _ _, sum8_add_cs_mod _, rfl, rfl⟩

end

/-! ## The obligations -/

/-- Settles O29: CSUM's flag is 0 whatever the range holds (R164). -/
theorem csumReportsSumAndChecksum : Obligations.CsumReportsSumAndChecksum := by
  intro s base size hsrc hle
  obtain ⟨r, _, hnext, hsum, hcs, -, hvalid⟩ := checksumCommand_reports (fun _ => false) hsrc hle
  exact ⟨r, hnext, hsum, hcs, hvalid⟩

/-- Settles O30: CSCHK's flag says whether CS_EXPECT validates, which only the checksum does (R162, R165). -/
theorem cschkSaysWhetherTheByteValidates : Obligations.CschkSaysWhetherTheByteValidates := by
  intro s base size hsrc hle
  obtain ⟨r, bytes, hnext, hsum, hcs, hbytes, hvalid⟩ :=
    checksumCommand_reports (fun bytes => validates bytes s.regs.csExpect) hsrc hle
  refine ⟨r, hnext, hsum, hcs, ?_⟩
  rw [hvalid, hbytes]
  exact validates_iff_eq_cs bytes s.regs.csExpect

/-- Settles O31: each clause leaves no range, by its source or by its bound. -/
theorem illegalChecksumRangesTrap : Obligations.IllegalChecksumRangesTrap := by
  intro s i hi hillegal
  have hrange : checksumRange s = none := by
    obtain h | ⟨h, hlt⟩ | ⟨h, hlt⟩ | ⟨h, hlt⟩ := hillegal
    · exact checksumRange_of_no_source (congrArg checksumSource h)
    · exact checksumRange_of_overrun (b := .txpay) (congrArg checksumSource h) hlt
    · exact checksumRange_of_overrun (b := .rxbuf) (congrArg checksumSource h) hlt
    · exact checksumRange_of_overrun (b := .txfrm) (congrArg checksumSource h) hlt
  obtain rfl | rfl := hi
  · exact checksumCommand_of_range_none _ hrange
  · exact checksumCommand_of_range_none _ hrange

end Sys2Proof.Machine
end

-- The frame codec (42_frame_codec.md R180 to R191)
section

namespace Sys2Proof.Machine

/-! ## What the codec's commands leave -/

/-- The state ENCODE leaves (R183). -/
def afterEncode (s : State) : State :=
  setErr none (setCadence .awaitAck
    (writeFrame (commandFrame Config.startMarker (payloadOperand s)) (markSequence s)))

/-- The state ENCACK leaves (R184). -/
def afterEncack (s : State) : State := setErr none (writeFrame Config.ack6 s)

/-- The state CLASSIFY leaves (R189). -/
def afterClassify (s : State) : State :=
  setErr none (setCadence (cadenceAfterClassify s.regs.status.cadence)
    (setRxResult
      (parseStatus Config.startMarker (classifiedKind s.regs.status.cadence (receivedFrame s)) (receivedFrame s))
      (parseHdr (receivedFrame s)) (parseTrl (receivedFrame s)) s))

theorem exec_encode_next (s : State) : exec .encode s = .next (afterEncode s) := rfl

theorem eq_afterEncode {s t : State} (h : exec .encode s = .next t) : t = afterEncode s := by
  cases h
  rfl

theorem exec_encack_next (s : State) : exec .encack s = .next (afterEncack s) := rfl

theorem exec_classify_next (s : State) : exec .classify s = .next (afterClassify s) := rfl

/-- The receive registers are the parse of the received frame (R189). -/
theorem afterClassify_parse (s : State) :
    (afterClassify s).regs.rxStatus =
        parseStatus Config.startMarker (classifiedKind s.regs.status.cadence (receivedFrame s)) (receivedFrame s) ∧
      (afterClassify s).regs.rxHdr = parseHdr (receivedFrame s) ∧
      (afterClassify s).regs.rxTrl = parseTrl (receivedFrame s) :=
  ⟨rfl, rfl, rfl⟩

/-! ## The bytes of a Command Frame -/

section
variable (m : Marker) (p : List Byte)

/-- The eight bytes before the payload (R180). -/
def frameHeader : List Byte :=
  [0x00, 0x00, 0xFF, m.1, m.2, BitVec.ofNat 8 p.length, BitVec.ofNat 8 (p.length / 256), cs (le16 p.length)]

theorem commandFrame_header {i : Nat} {v : Byte} (h : (frameHeader m p)[i]? = some v) :
    (commandFrame m p)[i]? = some v := by
  obtain ⟨hi, -⟩ := List.getElem?_eq_some_iff.mp h
  rw [commandFrame_eq, ← frameHeader, List.getElem?_append_left hi, h]

end

/-- The length bytes of a payload of at most 65535 bytes, lowest first, are its length. -/
theorem lengthBytes_toNat {n : Nat} (h : n < 65536) :
    (BitVec.ofNat 8 n).toNat = n % 256 ∧ (BitVec.ofNat 8 (n / 256)).toNat = n / 256 := by
  have hhigh : n / 256 < 256 := by omega
  exact ⟨BitVec.toNat_ofNat n 8, (BitVec.toNat_ofNat _ 8).trans (Nat.mod_eq_of_lt hhigh)⟩

/-- A sequence and its checksum sum to 0 (41_checksum.md R162). -/
theorem byteSum_add_cs_mod (bytes : List Byte) : (byteSum bytes + (cs bytes).toNat) % 256 = 0 :=
  (validates_iff bytes (cs bytes)).mp ((validates_iff_eq_cs bytes (cs bytes)).mpr rfl)

/-! ## The frame in TXFRM -/

theorem payloadOperand_length_lt (s : State) : (payloadOperand s).length < 65536 := by
  rw [payloadOperand_length]
  exact s.regs.txLen.isLt

/-- The sum of the payload, byte by byte. -/
theorem byteSum_payloadOperand (s : State) :
    byteSum (payloadOperand s) = ∑ i ∈ Finset.range s.regs.txLen.toNat, (bufByte s .txpay i).toNat := by
  rw [payloadOperand, byteSum_bufRange]
  simp only [Nat.zero_add]

/-- A frame leaves every byte outside it as it was. -/
theorem byteAt_writeFrame_outside {frame : List Byte} (s : State) {a : Nat}
    (h : ∀ i < frame.length, a ≠ bufAddr .txfrm i) : byteAt (writeFrame frame s) a = byteAt s a := by
  rw [byteAt_writeFrame, dif_neg]
  rintro ⟨hbase, hlt⟩
  exact h _ hlt (Nat.add_sub_cancel' hbase).symm

section
variable (s : State)

theorem bufByte_afterEncode {i : Nat} {v : Byte}
    (h : (commandFrame Config.startMarker (payloadOperand s))[i]? = some v) :
    bufByte (afterEncode s) .txfrm i = v :=
  bufByte_writeFrame _ (markSequence s) i v h

theorem bufByte_afterEncode_header {i : Nat} {v : Byte}
    (h : (frameHeader Config.startMarker (payloadOperand s))[i]? = some v) :
    bufByte (afterEncode s) .txfrm i = v :=
  bufByte_afterEncode s (commandFrame_header _ _ h)

theorem bufByte_afterEncode_payload {i : Nat} (h : i < s.regs.txLen.toNat) :
    bufByte (afterEncode s) .txfrm (8 + i) = bufByte s .txpay i := by
  have hi : i < (payloadOperand s).length := by rwa [payloadOperand_length]
  rw [bufByte_afterEncode s (commandFrame_payload _ _ i hi)]
  simp only [payloadOperand, bufRange_getElem, Nat.zero_add]

theorem bufByte_afterEncode_dcs :
    bufByte (afterEncode s) .txfrm (8 + s.regs.txLen.toNat) = cs (payloadOperand s) := by
  rw [← payloadOperand_length s]
  exact bufByte_afterEncode s (commandFrame_dcs _ _)

theorem bufByte_afterEncode_post : bufByte (afterEncode s) .txfrm (9 + s.regs.txLen.toNat) = 0x00 := by
  rw [← payloadOperand_length s]
  exact bufByte_afterEncode s (commandFrame_post _ _)

theorem byteAt_afterEncode_outside {a : Nat} (h : ∀ i < s.regs.txLen.toNat + 10, a ≠ bufAddr .txfrm i) :
    byteAt (afterEncode s) a = byteAt s a :=
  byteAt_writeFrame_outside (markSequence s) (by rwa [commandFrame_length, payloadOperand_length])

/-- All that ENCODE changes beside TXFRM (R183). -/
theorem afterEncode_eq :
    afterEncode s = { s with
      mem := (afterEncode s).mem
      regs := { s.regs with
        txfLen := BitVec.ofNat 17 (s.regs.txLen.toNat + 10)
        status := { s.regs.status with
          err := none, cadence := .awaitAck
          seqErr := s.regs.status.seqErr || decide (s.regs.status.cadence ≠ .idle) } } } := by
  have hbne : (s.regs.status.cadence != .idle) = decide (s.regs.status.cadence ≠ .idle) := by
    cases s.regs.status.cadence <;> rfl
  rw [← hbne, ← payloadOperand_length s, ← commandFrame_length Config.startMarker]
  rfl

/-- TXF_LEN holds the length of every frame ENCODE builds (10_state.md R37). -/
theorem afterEncode_txfLen_toNat : (afterEncode s).regs.txfLen.toNat = s.regs.txLen.toNat + 10 := by
  have := s.regs.txLen.isLt
  rw [afterEncode_eq, BitVec.toNat_ofNat]
  omega

end

/-- Settles O33: the frame is read byte by byte from the list ENCODE writes. -/
theorem encodeBuildsTheCommandFrame : Obligations.EncodeBuildsTheCommandFrame := by
  intro s
  obtain ⟨hlow, hhigh⟩ := lengthBytes_toNat (payloadOperand_length_lt s)
  have hlen := payloadOperand_length s
  have h5 := bufByte_afterEncode_header s (i := 5) rfl
  have h6 := bufByte_afterEncode_header s (i := 6) rfl
  have h7 := bufByte_afterEncode_header s (i := 7) rfl
  refine ⟨afterEncode s, exec_encode_next s, bufByte_afterEncode_header s rfl, bufByte_afterEncode_header s rfl,
    bufByte_afterEncode_header s rfl, bufByte_afterEncode_header s rfl, bufByte_afterEncode_header s rfl,
    ?low, ?high, ?lengthChecksum, fun i hi => bufByte_afterEncode_payload s hi, ?payloadChecksum,
    bufByte_afterEncode_post s, fun a ha => byteAt_afterEncode_outside s ha, afterEncode_eq s⟩
  case low => rw [h5, hlow, hlen]
  case high => rw [h6, hhigh, hlen]
  case lengthChecksum => rw [h5, h6, h7]; exact cs_le16 _
  case payloadChecksum =>
    rw [bufByte_afterEncode_dcs, ← byteSum_payloadOperand]
    exact byteSum_add_cs_mod _

/-- Settles O34: the six bytes are those of the list ENCACK writes. -/
theorem encackBuildsTheAcknowledgement : Obligations.EncackBuildsTheAcknowledgement := by
  intro s
  have hbyte {i : Nat} {v : Byte} (h : Config.ack6[i]? = some v) : bufByte (afterEncack s) .txfrm i = v :=
    bufByte_writeFrame Config.ack6 s i v h
  exact ⟨afterEncack s, exec_encack_next s, hbyte rfl, hbyte rfl, hbyte rfl, hbyte rfl, hbyte rfl, hbyte rfl,
    fun a ha => byteAt_writeFrame_outside (frame := Config.ack6) s ha, rfl⟩

/-! ## The flags of a received frame -/

section
variable (s : State)

theorem receivedFrame_slice {i j : Nat} (h : j ≤ s.regs.rxLen.toNat) :
    slice (receivedFrame s) i j = bufRange s .rxbuf i (j - i) := by
  rw [receivedFrame, slice_bufRange _ _ _ _ _ _ h, Nat.zero_add]

/-- Within the received frame `ext` is the buffer (R185). -/
theorem extByte_receivedFrame_of_lt {i : Nat} (h : i < s.regs.rxLen.toNat) :
    extByte (receivedFrame s) i = bufByte s .rxbuf i := by
  rw [extByte_receivedFrame, if_pos h]

/-- Both signatures and the header are compared with the first five bytes (R186, R188). -/
theorem startsWith_five_iff (b0 b1 b2 b3 b4 : Byte) :
    (decide (5 ≤ (receivedFrame s).length) && slice (receivedFrame s) 0 5 == [b0, b1, b2, b3, b4]) = true ↔
      5 ≤ s.regs.rxLen.toNat ∧ bufByte s .rxbuf 0 = b0 ∧ bufByte s .rxbuf 1 = b1 ∧ bufByte s .rxbuf 2 = b2 ∧
        bufByte s .rxbuf 3 = b3 ∧ bufByte s .rxbuf 4 = b4 := by
  rw [Bool.and_eq_true, decide_eq_true_iff, beq_iff_eq, receivedFrame_length]
  refine and_congr_right fun hL => ?_
  rw [receivedFrame_slice s hL]
  simp [bufRange, List.range_succ]

theorem sigMatch_receivedFrame_iff :
    sigMatch (receivedFrame s) = true ↔
      5 ≤ s.regs.rxLen.toNat ∧ bufByte s .rxbuf 0 = 0x00 ∧ bufByte s .rxbuf 1 = 0x00 ∧ bufByte s .rxbuf 2 = 0xFF ∧
        bufByte s .rxbuf 3 = 0x00 ∧ bufByte s .rxbuf 4 = 0xFF :=
  startsWith_five_iff s 0x00 0x00 0xFF 0x00 0xFF

theorem hdrOk_receivedFrame_iff (m : Marker) :
    hdrOk m (receivedFrame s) = true ↔
      5 ≤ s.regs.rxLen.toNat ∧ bufByte s .rxbuf 0 = 0x00 ∧ bufByte s .rxbuf 1 = 0x00 ∧ bufByte s .rxbuf 2 = 0xFF ∧
        bufByte s .rxbuf 3 = m.1 ∧ bufByte s .rxbuf 4 = m.2 :=
  startsWith_five_iff s 0x00 0x00 0xFF m.1 m.2

theorem ackMatch_receivedFrame_iff :
    ackMatch (receivedFrame s) = true ↔
      s.regs.rxLen.toNat = 6 ∧ bufByte s .rxbuf 0 = 0x00 ∧ bufByte s .rxbuf 1 = 0x00 ∧ bufByte s .rxbuf 2 = 0xFF ∧
        bufByte s .rxbuf 3 = 0x00 ∧ bufByte s .rxbuf 4 = 0xFF ∧ bufByte s .rxbuf 5 = 0x00 := by
  rw [ackMatch, Bool.and_eq_true, decide_eq_true_iff, beq_iff_eq, receivedFrame_length]
  refine and_congr_right fun hL => ?_
  rw [receivedFrame_slice s hL.ge]
  simp [bufRange, List.range_succ, Config.ack6]

theorem lcsOk_receivedFrame_iff :
    lcsOk (receivedFrame s) = true ↔
      8 ≤ s.regs.rxLen.toNat ∧ ((bufByte s .rxbuf 5).toNat + (bufByte s .rxbuf 6).toNat
        + (bufByte s .rxbuf 7).toNat) % 256 = 0 := by
  rw [lcsOk, Bool.and_eq_true, decide_eq_true_iff, beq_iff_eq, receivedFrame_length]
  refine and_congr_right fun hL => ?_
  rw [extByte_receivedFrame_of_lt s (by omega), extByte_receivedFrame_of_lt s (by omega),
    extByte_receivedFrame_of_lt s (by omega)]

theorem dcsOk_receivedFrame_iff {len : Nat} (hlen : declaredLen (receivedFrame s) = len) :
    dcsOk (receivedFrame s) = true ↔
      9 + len ≤ s.regs.rxLen.toNat ∧ ((∑ i ∈ Finset.range len, (bufByte s .rxbuf (8 + i)).toNat)
        + (bufByte s .rxbuf (8 + len)).toNat) % 256 = 0 := by
  rw [dcsOk, Bool.and_eq_true, decide_eq_true_iff, receivedFrame_length, hlen, validates_iff]
  refine and_congr_right fun hL => ?_
  rw [receivedFrame_slice s (by omega), extByte_receivedFrame_of_lt s (by omega), byteSum_bufRange,
    Nat.add_sub_cancel_left]

theorem postOk_receivedFrame_iff {len : Nat} (hlen : declaredLen (receivedFrame s) = len) :
    postOk (receivedFrame s) = true ↔ 10 + len ≤ s.regs.rxLen.toNat ∧ bufByte s .rxbuf (9 + len) = 0x00 := by
  rw [postOk, Bool.and_eq_true, decide_eq_true_iff, beq_iff_eq, receivedFrame_length, hlen]
  refine and_congr_right fun hL => ?_
  rw [extByte_receivedFrame_of_lt s (by omega), Config.postamble]

end

theorem isShort_iff (raw : List Byte) : isShort raw = true ↔ raw.length < declaredLen raw + 10 :=
  decide_eq_true_iff

theorem isLong_iff (raw : List Byte) : isLong raw = true ↔ declaredLen raw + 10 < raw.length :=
  decide_eq_true_iff

theorem isLen37_iff (raw : List Byte) : isLen37 raw = true ↔ raw.length = 37 :=
  decide_eq_true_iff

/-- Settles O35: `ext` and `len` are the model's own, and each flag is one comparison of the received bytes. -/
theorem classifyReportsTheParse : Obligations.ClassifyReportsTheParse := by
  intro s L len ext hL hext hlen
  obtain rfl : ext = extByte (receivedFrame s) := funext fun i => by rw [hext, hL, extByte_receivedFrame]
  have hdeclared : declaredLen (receivedFrame s) = len := hlen.symm
  have hlength : (receivedFrame s).length = L := by rw [receivedFrame_length, hL]
  have hpayLen := parseTrl_payLen (receivedFrame s) (receivedFrame_length s ▸ s.regs.rxLen.isLt)
  have hshort := isShort_iff (receivedFrame s)
  have hlong := isLong_iff (receivedFrame s)
  have hlen37 := isLen37_iff (receivedFrame s)
  rw [hlength, hdeclared] at hpayLen hshort hlong
  rw [hlength] at hlen37
  subst hL
  exact ⟨afterClassify s, exec_classify_next s, (parseHdr_len _).trans hdeclared, rfl,
    congrArg (fun n => extByte (receivedFrame s) (8 + n)) hdeclared,
    congrArg (fun n => extByte (receivedFrame s) (9 + n)) hdeclared, hpayLen, sigMatch_receivedFrame_iff s,
    ackMatch_receivedFrame_iff s, hdrOk_receivedFrame_iff s Config.startMarker, lcsOk_receivedFrame_iff s,
    dcsOk_receivedFrame_iff s hdeclared, postOk_receivedFrame_iff s hdeclared, hshort, hlong, hlen37, rfl⟩

/-! ## The cadence slot and the kind -/

/-- A command other than ENCODE and CLASSIFY keeps the slot, and so does every command that ends in an error (R187). -/
theorem CommandEffect.keeps_cadence {i : Instr} {s t : State} (h : CommandEffect i s t)
    (hother : i ≠ .encode ∧ i ≠ .classify ∨ t.regs.status.err ≠ none) :
    t.regs.status.cadence = s.regs.status.cadence := by
  cases h with
  | encodes hi => exact hother.elim (fun hne => absurd hi hne.1) (fun herr => absurd rfl herr)
  | classifies hi => exact hother.elim (fun hne => absurd hi hne.2) (fun herr => absurd rfl herr)
  | _ => rfl

theorem runCommand_keeps_cadence_of_err {w : Word} {s t : State} (h : runCommand w s = .next t)
    (herr : t.regs.status.err ≠ none) : t.regs.status.cadence = s.regs.status.cadence := by
  obtain ⟨e, rfl⟩ | ⟨i, -, heffect⟩ := commandEffect_of_runCommand h
  · rfl
  · exact heffect.keeps_cadence (.inr herr)

/-- Outside the ACK slot CLASSIFY ends the exchange and the content decides (R187). -/
theorem afterClassify_of_not_awaitAck {s : State} (h : s.regs.status.cadence ≠ .awaitAck) :
    (afterClassify s).regs.status.cadence = .idle ∧
      (afterClassify s).regs.rxStatus.kind = verdict (receivedFrame s) := by
  change cadenceAfterClassify s.regs.status.cadence = .idle ∧
    classifiedKind s.regs.status.cadence (receivedFrame s) = verdict (receivedFrame s)
  cases hc : s.regs.status.cadence with
  | awaitAck => exact absurd hc h
  | awaitResp | idle => exact ⟨rfl, rfl⟩

/-- In the ACK slot the position decides (R187). -/
theorem afterClassify_of_awaitAck {s : State} (h : s.regs.status.cadence = .awaitAck) :
    (afterClassify s).regs.status.cadence = .awaitResp ∧ (afterClassify s).regs.rxStatus.kind = .ack :=
  ⟨congrArg cadenceAfterClassify h, congrArg (classifiedKind · (receivedFrame s)) h⟩

theorem afterEncode_seqErr_iff (s : State) :
    (afterEncode s).regs.status.seqErr = true ↔ s.regs.status.seqErr = true ∨ s.regs.status.cadence ≠ .idle := by
  rw [afterEncode_eq, Bool.or_eq_true, decide_eq_true_iff]

theorem verdict_of_sigMatch {raw : List Byte} (h : sigMatch raw = true) : verdict raw = .failure := if_pos h

theorem verdict_of_not_sigMatch {raw : List Byte} (h : ¬ sigMatch raw = true) : verdict raw = .success := if_neg h

/-- Settles O36: the table row by row, over the shapes of a command for the rows that keep the slot. -/
theorem cadenceFollowsTheTwoReadTable : Obligations.CadenceFollowsTheTwoReadTable := by
  intro s
  refine ⟨⟨afterEncode s, exec_encode_next s, rfl, afterEncode_seqErr_iff s⟩,
    ⟨afterClassify s, exec_classify_next s, afterClassify_of_awaitAck, fun hslot => ?_⟩,
    fun i t hencode hclassify ht => (commandEffect_of_exec ht).keeps_cadence (.inl ⟨hencode, hclassify⟩),
    fun w t => runCommand_keeps_cadence_of_err, rfl, rfl, rfl⟩
  obtain ⟨hidle, hkind⟩ := afterClassify_of_not_awaitAck hslot
  rw [← sigMatch_receivedFrame_iff, hkind]
  exact ⟨hidle, verdict_of_sigMatch, verdict_of_not_sigMatch⟩

/-! ## What CLASSIFY reads -/

theorem receivedFrame_eq_of_bytes {s s' : State} (hlen : s'.regs.rxLen = s.regs.rxLen)
    (h : ∀ i < s.regs.rxLen.toNat, bufByte s' .rxbuf i = bufByte s .rxbuf i) :
    receivedFrame s' = receivedFrame s := by
  rw [receivedFrame, hlen]
  exact bufRange_zero_eq_of_bytes h

/-- Settles O37: CLASSIFY reads the registers and the received frame alone. -/
theorem classifyIgnoresBytesBeyondTheFrame : Obligations.ClassifyIgnoresBytesBeyondTheFrame := by
  intro s s' hregs hbytes
  have hframe := receivedFrame_eq_of_bytes (congrArg Regs.rxLen hregs) hbytes
  obtain ⟨r, frame, ht, ht'⟩ := sameEffect_execClassify hregs hframe
  exact ⟨_, _, ht, ht', rfl⟩

/-! ## Parsing a Command Frame -/

theorem extByte_of_getElem? {raw : List Byte} {i : Nat} {v : Byte} (h : raw[i]? = some v) : extByte raw i = v := by
  rw [extByte, List.getD_eq_getElem?_getD, h, Option.getD_some]

section
variable (m : Marker) (p : List Byte)

/-- The first five bytes of a Command Frame (R180). -/
theorem commandFrame_slice_five : slice (commandFrame m p) 0 5 = Config.preamble ++ [m.1, m.2] := by
  rw [commandFrame_eq]
  rfl

theorem commandFrame_slice_payload : slice (commandFrame m p) 8 (8 + p.length) = p := by
  rw [commandFrame_eq, slice, Nat.add_sub_cancel_left]
  exact List.take_left

theorem extByte_commandFrame_header {i : Nat} {v : Byte} (h : (frameHeader m p)[i]? = some v) :
    extByte (commandFrame m p) i = v :=
  extByte_of_getElem? (commandFrame_header m p h)

theorem hdrOk_commandFrame : hdrOk m (commandFrame m p) = true := by
  rw [hdrOk, commandFrame_slice_five, commandFrame_length]
  simp

/-- A frame whose marker is not the forbidden pair does not begin like an error frame (00_scope.md R10). -/
theorem sigMatch_commandFrame (h : m ≠ (0x00, 0xFF)) : sigMatch (commandFrame m p) = false := by
  have hne : Config.preamble ++ [m.1, m.2] ≠ Config.errSig := fun heq => h <| by
    obtain ⟨-, -, -, h0, h1⟩ : _ ∧ _ ∧ _ ∧ m.1 = 0x00 ∧ m.2 = 0xFF := by
      simpa only [Config.preamble, Config.errSig, List.cons_append, List.nil_append, List.cons.injEq,
        and_true] using heq
    exact Prod.ext h0 h1
  rw [sigMatch, commandFrame_slice_five, beq_eq_false_iff_ne.mpr hne, Bool.and_false]

theorem lcsOk_commandFrame : lcsOk (commandFrame m p) = true := by
  rw [lcsOk, commandFrame_length, extByte_commandFrame_header m p (i := 5) rfl,
    extByte_commandFrame_header m p (i := 6) rfl, extByte_commandFrame_header m p (i := 7) rfl, cs_le16]
  simp

end

section
variable {m : Marker} {p : List Byte} (h : p.length < 65536)
include h

theorem declaredLen_commandFrame : declaredLen (commandFrame m p) = p.length := by
  obtain ⟨hlow, hhigh⟩ := lengthBytes_toNat h
  rw [declaredLen, extByte_commandFrame_header m p (i := 5) rfl, extByte_commandFrame_header m p (i := 6) rfl,
    hlow, hhigh]
  exact Nat.mod_add_div p.length 256

theorem extByte_commandFrame_dcs :
    extByte (commandFrame m p) (8 + declaredLen (commandFrame m p)) = cs p := by
  rw [declaredLen_commandFrame h]
  exact extByte_of_getElem? (commandFrame_dcs m p)

/-- RX_HDR of a Command Frame (R188). -/
theorem parseHdr_commandFrame :
    (parseHdr (commandFrame m p)).len.toNat = p.length ∧ (parseHdr (commandFrame m p)).lcs = cs (le16 p.length) :=
  ⟨(parseHdr_len _).trans (declaredLen_commandFrame h), extByte_commandFrame_header m p (i := 7) rfl⟩

theorem dcsOk_commandFrame : dcsOk (commandFrame m p) = true := by
  rw [dcsOk, extByte_commandFrame_dcs h, declaredLen_commandFrame h, commandFrame_slice_payload, commandFrame_length,
    (validates_iff_eq_cs p (cs p)).mpr rfl, Bool.and_true, decide_eq_true_iff]
  omega

theorem postOk_commandFrame : postOk (commandFrame m p) = true := by
  rw [postOk, declaredLen_commandFrame h, extByte_of_getElem? (commandFrame_post m p), commandFrame_length,
    Nat.add_comm, decide_eq_true le_rfl]
  rfl

theorem isShort_commandFrame : isShort (commandFrame m p) = false := by
  rw [isShort, declaredLen_commandFrame h, commandFrame_length]
  exact decide_eq_false (lt_irrefl _)

theorem isLong_commandFrame : isLong (commandFrame m p) = false := by
  rw [isLong, declaredLen_commandFrame h, commandFrame_length]
  exact decide_eq_false (lt_irrefl _)

end

/-- RX_TRL.PAY_LEN of a Command Frame is the payload length, if it fits the field (R188). -/
theorem parseTrl_payLen_commandFrame (m : Marker) {p : List Byte} (h : p.length ≤ 280) :
    (parseTrl (commandFrame m p)).payLen.toNat = p.length := by
  rw [parseTrl_payLen _ (by rw [commandFrame_length]; omega), declaredLen_commandFrame (by omega),
    commandFrame_length]
  omega

/-! ## The round trip -/

/-- What lies in TXFRM after ENCODE, once copied to RXBUF, is received as the frame of the payload. -/
theorem receivedFrame_of_copy {s u : State} (hlen : u.regs.rxLen.toNat = s.regs.txLen.toNat + 10)
    (hcopy : ∀ i < s.regs.txLen.toNat + 10, bufByte u .rxbuf i = bufByte (afterEncode s) .txfrm i) :
    receivedFrame u = commandFrame Config.startMarker (payloadOperand s) := by
  have hlength : (commandFrame Config.startMarker (payloadOperand s)).length = s.regs.txLen.toNat + 10 := by
    rw [commandFrame_length, payloadOperand_length]
  apply List.ext_getElem
  · rw [receivedFrame_length, hlen, hlength]
  · intro i _ hi
    rw [← bufByte_afterEncode s (List.getElem?_eq_getElem hi), ← hcopy i (hlength ▸ hi)]
    simp only [receivedFrame, bufRange_getElem, Nat.zero_add]

theorem verdict_commandFrame_startMarker (p : List Byte) :
    verdict (commandFrame Config.startMarker p) = .success :=
  verdict_of_not_sigMatch <| Bool.eq_false_iff.mp <|
    sigMatch_commandFrame _ p Config.startMarkerIsNeverTheForbiddenPair

/-- A frame is longer than RXBUF exactly when its payload is longer than 280 bytes (R191). -/
theorem afterEncode_txfLen_gt_iff (s : State) :
    290 < (afterEncode s).regs.txfLen.toNat ↔ 280 < s.regs.txLen.toNat := by
  rw [afterEncode_txfLen_toNat]
  omega

/-- Settles O38: CLASSIFY receives the very frame ENCODE built, and its parse gives back what went in. -/
theorem encodeThenClassifyRoundTrips : Obligations.EncodeThenClassifyRoundTrips := by
  refine ⟨fun s t ht => eq_afterEncode ht ▸ afterEncode_txfLen_gt_iff s,
    fun s t u hfits ht hcopy hlen hslot => ?_⟩
  obtain rfl := eq_afterEncode ht
  rw [afterEncode_txfLen_toNat] at hcopy hlen
  have hframe := receivedFrame_of_copy hlen hcopy
  obtain ⟨-, hkind⟩ := afterClassify_of_not_awaitAck hslot
  obtain ⟨hstatus, hhdr, htrl⟩ := afterClassify_parse u
  rw [hframe] at hkind hstatus hhdr htrl
  have hp := payloadOperand_length s
  have hlt := payloadOperand_length_lt s
  obtain ⟨hlenField, hlcsField⟩ := parseHdr_commandFrame (m := Config.startMarker) hlt
  have hpayLen := parseTrl_payLen_commandFrame Config.startMarker (hp.trans_le hfits)
  rw [hp] at hlenField hlcsField hpayLen
  have hpayload : ∀ i < s.regs.txLen.toNat, bufByte (afterClassify u) .rxbuf (8 + i) = bufByte s .txpay i :=
    fun i hi => (hcopy (8 + i) (by omega)).trans (bufByte_afterEncode_payload s hi)
  refine ⟨afterClassify u, exec_classify_next u, hkind.trans (verdict_commandFrame_startMarker _), ?_⟩
  rw [hstatus, hhdr, htrl]
  exact ⟨hlenField, hpayLen, hpayload, hlcsField, extByte_commandFrame_dcs hlt, hdrOk_commandFrame _ _, lcsOk_commandFrame _ _,
    dcsOk_commandFrame hlt, postOk_commandFrame hlt, isShort_commandFrame hlt, isLong_commandFrame hlt⟩

end Sys2Proof.Machine
end

-- Card identity and tag timeouts (43_tag_timeout.md R220 to R232)
section

namespace Sys2Proof.Machine

/-! ## The identity as bytes -/

theorem wordByte_toNat (w : Word) (i : Nat) : (wordByte w i).toNat = w.toNat / 256 ^ i % 256 := by
  rw [wordByte, BitVec.extractLsb'_toNat, Nat.shiftRight_eq_div_pow, Nat.pow_mul]

/-- The bytes of a packed word, the first in the lowest bits (10_state.md R51). -/
theorem packRxbuf_byte (s : State) (off : Nat) {i : Nat} (h : i < 4) :
    (packRxbuf s off).toNat / 256 ^ i % 256 = (bufByte s .rxbuf (off + i)).toNat := by
  obtain ⟨h0, h1, h2, h3⟩ := wordByte_packWord (bufByte s .rxbuf off) (bufByte s .rxbuf (off + 1))
    (bufByte s .rxbuf (off + 2)) (bufByte s .rxbuf (off + 3))
  have hbyte : wordByte (packRxbuf s off) i = bufByte s .rxbuf (off + i) := by
    match i, h with
    | 0, _ => exact h0
    | 1, _ => exact h1
    | 2, _ => exact h2
    | 3, _ => exact h3
  rw [← wordByte_toNat, hbyte]

/-- PMm bytes 0 to 3 lie in PMM_LO (10_state.md R52). -/
theorem pmmByte_toNat_lo (s : State) {i : Nat} (h : i < 4) :
    (pmmByte s i).toNat = s.regs.pmmLo.toNat / 256 ^ i % 256 := by
  rw [pmmByte, if_pos h, wordByte_toNat]

/-- PMm bytes 4 to 7 lie in PMM_HI (10_state.md R52). -/
theorem pmmByte_toNat_hi (s : State) {i : Nat} (h : 4 ≤ i) :
    (pmmByte s i).toNat = s.regs.pmmHi.toNat / 256 ^ (i - 4) % 256 := by
  rw [pmmByte, if_neg (Nat.not_lt.mpr h), wordByte_toNat]

/-! ## CAPTURE -/

/-- CAPTURE of a 37-byte response (R222). -/
theorem exec_capture_of_len {s : State} (h : s.regs.rxLen.toNat = 37) :
    exec .capture s = .next (setErr none (setCapHit true (setIdentity (packRxbuf s 17) (packRxbuf s 21)
      (packRxbuf s 25) (packRxbuf s 29) s))) :=
  if_pos h

/-- CAPTURE of any other length (R222). -/
theorem exec_capture_of_len_ne {s : State} (h : s.regs.rxLen.toNat ≠ 37) :
    exec .capture s = .next (setErr none (setCapHit false s)) :=
  if_neg h

/-- Settles O43: each register is four bytes of RXBUF packed low byte first. -/
theorem captureLoadsTheIdentity : Obligations.CaptureLoadsTheIdentity := fun s hlen =>
  ⟨packRxbuf s 17, packRxbuf s 21, packRxbuf s 25, packRxbuf s 29, exec_capture_of_len hlen, fun _ hi =>
    ⟨packRxbuf_byte s 17 hi, packRxbuf_byte s 21 hi, packRxbuf_byte s 25 hi, packRxbuf_byte s 29 hi⟩⟩

/-- Settles O44: a miss writes CAPHIT and ERR alone. -/
theorem captureMissKeepsTheIdentity : Obligations.CaptureMissKeepsTheIdentity := fun _ hlen =>
  exec_capture_of_len_ne hlen

/-! ## The timeout of a PMm byte (R221, R224, R232) -/

section
variable (p n : Byte)

theorem countUnits_eq : countUnits p n = (p.toNat / 8 % 8 + 1) * n.toNat + p.toNat % 8 + 1 := by
  obtain ⟨ha, hb, -⟩ := coefs_toNat p
  rw [countUnits, ha, hb]

theorem timeoutTq_sys : timeoutTq .sys p n = max (3020 * (p.toNat % 8 + 1) * 4 ^ (p.toNat / 64)) 20000 := by
  obtain ⟨ha, -, he⟩ := coefs_toNat p
  rw [timeoutTq, ha, he, scaledTime, Config.kSys, Config.tqMinSys]

theorem timeoutTq_svc :
    timeoutTq .svc p n = 3020 * ((p.toNat / 8 % 8 + 1) * n.toNat + p.toNat % 8 + 1) * 4 ^ (p.toNat / 64) := by
  obtain ⟨-, -, he⟩ := coefs_toNat p
  rw [timeoutTq, countUnits_eq, he, scaledTime, Config.kSvc]

theorem timeoutTq_read :
    timeoutTq .read p n = 3021 * ((p.toNat / 8 % 8 + 1) * n.toNat + p.toNat % 8 + 1) * 4 ^ (p.toNat / 64) := by
  obtain ⟨-, -, he⟩ := coefs_toNat p
  rw [timeoutTq, countUnits_eq, he, scaledTime, Config.kRead]

theorem timeoutTq_sense : timeoutTq .sense p n = 100000 := rfl

/-- The request system code timeout without a count is at most 8 base times scaled by `4 ^ 3`. -/
theorem timeoutTq_sys_le : timeoutTq .sys p n ≤ 1546240 := by
  have hp := p.isLt
  have hscaled : 3020 * (p.toNat % 8 + 1) * 4 ^ (p.toNat / 64) ≤ 3020 * 8 * 4 ^ 3 := by gcongr <;> omega
  rw [timeoutTq_sys]
  exact max_le hscaled (by decide)

theorem timeoutTq_sys_ge : 20000 ≤ timeoutTq .sys p n := le_max_right _ _

theorem one_le_countUnits : 1 ≤ countUnits p n := Nat.succ_pos _

end

/-- At least one unit of a base time is at least that base time. -/
theorem le_scaledTime {k units : Nat} (e : Nat) (hunits : 1 ≤ units) : k ≤ scaledTime k units e :=
  calc k ≤ k * units := Nat.le_mul_of_pos_right k hunits
    _ ≤ k * units * 4 ^ e := Nat.le_mul_of_pos_right _ (by positivity)

/-- No timeout is below one base time of 302 µs (R232). -/
theorem le_timeoutTq (k : TimeoutKind) (p n : Byte) : 3020 ≤ timeoutTq k p n := by
  have hunits := one_le_countUnits p n
  cases k with
  | sys => exact le_trans (by decide) (timeoutTq_sys_ge p n)
  | svc => exact le_scaledTime _ hunits
  | read => exact le_trans (by decide : 3020 ≤ Config.kRead) (le_scaledTime _ hunits)
  | sense => exact (by decide : 3020 ≤ Config.tqSense)

/-- The upper clamp is out of reach (R232). -/
theorem timeoutMs_eq_max {tq : Nat} (h : tq ≤ 395968512) : timeoutMs tq = max (tq / 10000) 1 := by
  rw [timeoutMs_eq, min_eq_left]
  omega

/-- Settles O52: the bounds on the timeout carry over to the milliseconds, and the 1 ms floor bounds the ticks below. -/
theorem timeoutsStayInRange : Obligations.TimeoutsStayInRange := by
  intro k p n
  have hle := timeoutTq_le k p n
  have hms := timeoutMs_eq_max hle
  have hraw : timeoutMsRaw (timeoutTq k p n) ≤ 39596 := Nat.div_le_div_right hle
  have hticks : 20 ≤ timeoutTicks (timeoutMs (timeoutTq k p n)) := by
    have hone : 1 ≤ timeoutMs (timeoutTq k p n) := hms ▸ le_max_right _ _
    rw [timeoutTicks_eq]
    omega
  exact ⟨one_le_countUnits p n, countUnits_le p n, le_timeoutTq k p n, hle, hle.trans_lt (by decide), hraw, hms,
    hticks, min_le_right _ _⟩

/-- Settles O51: a base time of 3020 or 3021 units of 100 ns is the source's literal in seconds, and the
2 ms floor commutes with the change of unit. -/
theorem timeoutEqualsTheSourceFormula : Obligations.TimeoutEqualsTheSourceFormula := by
  rintro p n a b e c rfl rfl rfl rfl
  rw [timeoutTq_sys, timeoutTq_svc, timeoutTq_read, timeoutTq_sense]
  push_cast
  refine ⟨?_, ?_, ?_, ?_⟩
  · rw [← max_div_div_right (by positivity)]
    congr 1
    · ring
    · norm_num
  · ring
  · ring
  · norm_num

/-! ## The TIMEOUT commands -/

section
variable {s : State} {k : TimeoutKind} {idx : Nat} {n : Byte}

theorem identityTimeout_of_idValid (h : s.regs.status.idValid = true) :
    identityTimeout k idx n s = .next (setErr none
      (writeTimeout k (pmmByte s idx) (BitVec.ofNat 4 idx) n (timeoutTq k (pmmByte s idx) n) s)) :=
  if_pos h

theorem identityTimeout_of_no_identity (h : s.regs.status.idValid = false) :
    identityTimeout k idx n s = .next (setErr (some .noid) s) :=
  if_neg (Bool.eq_false_iff.mp h)

/-- What an identity timeout reports from its PMm byte `p`, for every kind (R225 to R229). -/
theorem identityTimeout_reports {p tq ms : Nat} (hid : s.regs.status.idValid = true)
    (hp : (pmmByte s idx).toNat = p) (htq : timeoutTq k (pmmByte s idx) n = tq) (hms : ms = max (tq / 10000) 1) :
    ∃ t, identityTimeout k idx n s = .next t ∧
      t.regs.toTq.toNat = tq ∧ t.regs.toMs.ms.toNat = ms ∧ (t.regs.toMs.lowClamp = true ↔ tq < 10000) ∧
      t.regs.toTicks.ticks.toNat = min ((ms + 1) * 10) 0xFFFF ∧ (t.regs.toTicks.sat = true ↔ 6553 ≤ ms) ∧
      t.regs.toCoef.a.toNat = p % 8 ∧ t.regs.toCoef.b.toNat = p / 8 % 8 ∧ t.regs.toCoef.e.toNat = p / 64 ∧
      t.regs.toCoef.pbyte.toNat = p ∧ t.regs.toCoef.pidx = BitVec.ofNat 4 idx ∧ t.regs.toCoef.n = n ∧
      t.regs.toCoef.kind = k ∧
      t = { s with regs := { s.regs with
        toCoef := t.regs.toCoef, toTq := t.regs.toTq, toMs := t.regs.toMs, toTicks := t.regs.toTicks
        status := { s.regs.status with err := none } } } := by
  have hle : tq ≤ 395968512 := htq ▸ timeoutTq_le k (pmmByte s idx) n
  obtain ⟨htqReg, hmsReg, hclamp, hticks, hsat⟩ := writeTimeout_numbers k (pmmByte s idx) (BitVec.ofNat 4 idx) n tq s
    (hle.trans_lt (by decide))
  rw [← timeoutMs_eq, timeoutMs_eq_max hle, ← hms] at hmsReg hticks hsat
  obtain ⟨ha, hb, he⟩ := hp ▸ coefs_toNat (pmmByte s idx)
  refine ⟨_, identityTimeout_of_idValid hid, ?_⟩
  rw [htq]
  refine ⟨htqReg, hmsReg, hclamp.trans ?_, hticks, hsat.trans ?_, ha, hb, he, hp, rfl, rfl, rfl, rfl⟩
  · exact Nat.div_eq_zero_iff_lt (by decide)
  · omega

end

/-- Settles O45: the 2 ms floor keeps the milliseconds off the low clamp, and 154 ms at most keep the ticks off
saturation. -/
theorem timeoutSysScalesPmmByteThree : Obligations.TimeoutSysScalesPmmByteThree := by
  intro s n p tq ms hid hp htq hms
  have hbyte : (pmmByte s 3).toNat = p := by
    have := s.regs.pmmLo.isLt
    rw [pmmByte_toNat_lo s (by decide), hp]
    omega
  have htqByte : timeoutTq .sys (pmmByte s 3) 0 = tq := by rw [timeoutTq_sys, hbyte, htq]
  have hge : 20000 ≤ tq := htqByte ▸ timeoutTq_sys_ge (pmmByte s 3) 0
  have hle : tq ≤ 1546240 := htqByte ▸ timeoutTq_sys_le (pmmByte s 3) 0
  obtain ⟨t, ht, htqReg, hmsReg, hclamp, hticks, hsat, hcoef⟩ :=
    identityTimeout_reports hid hbyte htqByte (ms := ms) (by omega)
  refine ⟨t, ht, htqReg, hmsReg, ?_, ?_, ?_, hcoef⟩
  · exact Bool.eq_false_iff.mpr (mt hclamp.mp (by omega))
  · rw [hticks, min_eq_left (by omega)]
  · exact Bool.eq_false_iff.mpr (mt hsat.mp (by omega))

/-- Settles O46: PMm[2] lies in PMM_LO, and its timeout counts the service codes (R228). -/
theorem timeoutSvcScalesPmmByteTwo : Obligations.TimeoutSvcScalesPmmByteTwo := by
  intro s n p tq ms hid hp htq hms
  have hbyte : (pmmByte s 2).toNat = p := (pmmByte_toNat_lo s (by decide)).trans hp.symm
  have htqByte : timeoutTq .svc (pmmByte s 2) n = tq := by rw [timeoutTq_svc, hbyte, htq]
  exact identityTimeout_reports hid hbyte htqByte hms

/-- Settles O47: PMm[5] lies in PMM_HI, and its timeout counts the blocks (R229). -/
theorem timeoutReadScalesPmmByteFive : Obligations.TimeoutReadScalesPmmByteFive := by
  intro s n p tq ms hid hp htq hms
  have hbyte : (pmmByte s 5).toNat = p := (pmmByte_toNat_hi s (by decide)).trans hp.symm
  have htqByte : timeoutTq .read (pmmByte s 5) n = tq := by rw [timeoutTq_read, hbyte, htq]
  exact identityTimeout_reports hid hbyte htqByte hms

/-- Settles O48: the sense timeout takes nothing from the state, so its results are closed terms (R230). -/
theorem timeoutSenseIsTenMilliseconds : Obligations.TimeoutSenseIsTenMilliseconds := fun s _ =>
  completeCommand_next (writeTimeout .sense 0 0xF 0 (timeoutTq .sense 0 0) s)

/-- Settles O49: the three commands share one check of ID_VALID. -/
theorem timeoutsWithoutIdentityTrap : Obligations.TimeoutsWithoutIdentityTrap := by
  rintro s i n (rfl | rfl | rfl) hid
  · exact identityTimeout_of_no_identity hid
  · exact identityTimeout_of_no_identity hid
  · exact identityTimeout_of_no_identity hid

end Sys2Proof.Machine
end

-- Errors as next states, and their precision (60_exceptions.md R260, R263)
section

namespace Sys2Proof.Machine

/-! ## Command errors -/

/-- A command that ends in an error has taken the one shape that writes STATUS.ERR alone; every other shape ends with
ERR 0 (R263). -/
theorem CommandEffect.eq_setErr_of_err {i : Instr} {s t : State} (h : CommandEffect i s t)
    (herr : t.regs.status.err ≠ none) : t = setErr t.regs.status.err s := by
  cases h with
  | errorOnly _ => rfl
  | _ => exact absurd rfl herr

/-- Settles O24: the decoder's error and a command's own error are both a write of ERR on the state the envelope
entered. -/
theorem commandErrorsArePrecise : Obligations.CommandErrorsArePrecise := by
  intro w s t hrun herr
  have hprecise : t = setErr t.regs.status.err (enterCommand w s) := by
    obtain ⟨e, rfl⟩ | ⟨i, -, heffect⟩ := commandEffect_of_runCommand hrun
    · rfl
    · exact heffect.eq_setErr_of_err herr
  exact hprecise

/-! ## Every event has a next state -/

theorem writeReg_answers_next (r : Reg) (v : Word) (s : State) : ∃ t, writeReg r v s = .next t := by
  cases r with
  | cmd => exact runCommand_answers_next v s
  | _ => exact ⟨_, rfl⟩

/-- A refused write is a next state too (20_memory.md R95). -/
theorem write32_answers_next (a : Addr) (v : Word) (s : State) : ∃ t, write32 a v s = .next t := by
  cases ha : wordTarget a with
  | register r =>
    obtain ⟨u, hu⟩ := writeReg_answers_next r v s
    exact ⟨observe .accepted u, by simp only [write32, ha, hu, mapNext_next]⟩
  | reserved => exact ⟨observe .accepted s, by rw [write32, ha]⟩
  | refused => exact ⟨observe .refusedWrite s, by rw [write32, ha]⟩

theorem hostAccess_answers_next (a : HostAccess) (s : State) : ∃ t, hostAccess a s = .next t := by
  cases a with
  | write32 a v => exact write32_answers_next a v s
  | read32 _ | read8 _ | write8 _ _ => exact ⟨_, rfl⟩

/-- Settles O7: with no event the block waits, a reset pulse always has its state, and an access can only fail into a
next state. -/
theorem everyStepAnswersNext : Obligations.EveryStepAnswersNext := by
  intro s
  cases hp : s.pending with
  | nil => exact ⟨s, by rw [step, hp]⟩
  | cons e rest =>
    rw [step_of_pending hp]
    cases e with
    | access a => exact hostAccess_answers_next a (dropEvent rest s)
    | powerOnReset => exact ⟨powerOn (dropEvent rest s), rfl⟩

end Sys2Proof.Machine
end

-- Waiting, soft reset and power-on reset (70_reset_and_hazards.md R290 to R292)
section

namespace Sys2Proof.Machine

/-! ## The steps -/

section
variable {s : State} {rest : List HostEvent}

theorem step_of_no_pending (hp : s.pending = []) : step s = .next s := by
  rw [step, hp]

/-- A write of CTRL is a soft reset if bit 0 is set, and else is only recorded. -/
theorem step_write32_ctrl {v : Word} (hp : s.pending = .access (.write32 0x00000 v) :: rest) :
    step s = .next (observe .accepted (if v.getLsbD 0 then softReset (dropEvent rest s) else dropEvent rest s)) :=
  step_write32_register (r := .ctrl) rfl hp

theorem step_powerOnReset (hp : s.pending = .powerOnReset :: rest) : step s = .next (powerOn (dropEvent rest s)) :=
  step_of_pending hp

end

/-- Settles O10: the wait is the step's own case for an empty list of events. -/
theorem waitingBlockStaysAsItIs : Obligations.WaitingBlockStaysAsItIs := fun _ => step_of_no_pending

/-! ## Soft reset -/

theorem getLsbD_zero_iff_odd (v : Word) : v.getLsbD 0 = true ↔ v.toNat % 2 = 1 := by
  simp [BitVec.getLsbD, Nat.testBit_zero]

/-- Settles O22: a soft reset replaces the registers alone, and a byte depends on the memory and the power-on count
only. -/
theorem softResetClearsRegistersKeepsBuffers : Obligations.SoftResetClearsRegistersKeepsBuffers := by
  intro s rest v hp
  have hstep := step_write32_ctrl hp
  refine ⟨fun hodd => ?_, fun heven => ?_⟩
  · rw [if_pos ((getLsbD_zero_iff_odd v).mpr hodd)] at hstep
    exact ⟨_, hstep, readReg_of_regs_reset rfl, byteAt_congr rfl rfl, rfl⟩
  · rw [if_neg (mt (getLsbD_zero_iff_odd v).mp (by omega))] at hstep
    exact hstep

/-! ## Power-on reset -/

/-- After a power-on no byte counts as written (20_memory.md R104). -/
theorem isWritten_powerOn (s : State) (b : Buffer) (i : Nat) : isWritten (powerOn s) b i = false := by
  rw [isWritten, powerOn_mem, memLookup_nil, Option.isSome_none]

/-- After a power-on every byte is the draw of the new power-on (R292). -/
theorem byteAt_powerOn (s : State) (a : Nat) : byteAt (powerOn s) a = Config.powerOnByte (s.powerOns + 1) a := by
  rw [byteAt, powerOn_mem, memLookup_nil, powerOn_powerOns]

/-- Settles O23: a power-on has the reset registers and an empty memory, and keeps the events after the pulse. -/
theorem powerOnClearsRegistersAndUnwritesBuffers : Obligations.PowerOnClearsRegistersAndUnwritesBuffers := by
  intro s rest hp
  exact ⟨powerOn (dropEvent rest s), step_powerOnReset hp, readReg_of_regs_reset (powerOn_regs _),
    isWritten_powerOn _, byteAt_powerOn _, powerOn_pending _⟩

end Sys2Proof.Machine
end
